-- ==== Sys2Proof/Word.lean ====
section
/-! DEFINITION. The bit patterns the PSU works on, as 00_scope.md R10 and 10_state.md R30 size them. -/

namespace Sys2Proof

/-- One byte, the smallest addressable unit of the data space (20_memory.md R60). -/
abbrev Byte := BitVec 8

/-- A 32-bit port or register: DESC, SCALAR, ADDR, FAULT_PC, VPR, LOOPCOUNT, STATUS (10_state.md R30). -/
abbrev Word := BitVec 32

/-- A 64-bit accumulator or result: ACC_IN and RES (10_state.md R30, ACCW of 00_scope.md R10). -/
abbrev DWord := BitVec 64

/-- A vector register, VLEN = 128 bits (00_scope.md R10, 10_state.md R45). -/
abbrev QWord := BitVec 128

/-- A predicate mask, MLEN = 16 bits, one bit per byte of a vector register (00_scope.md R10). -/
abbrev Mask := BitVec 16

/-- The number of a vector register, Q0 to Q7: the 3-bit fields QD, QN and QM (30_encoding.md R84). -/
abbrev QReg := Fin 8

end Sys2Proof
end

