-- ==== Sys2Proof/Syntax.lean ====
section
/-! DEFINITION. The operations of the PSU: one constructor per row of spec/opcode_table.json (30_encoding.md R89, R90).

A constructor carries the register fields its row uses: `d` is QD, `n` is QN, `m` is QM. Scalar operands, the
accumulator seed and the address come on the ports (30_encoding.md R92), so no constructor carries them. VMOV is
VORR with QN = QM (R96) and has no constructor of its own. -/

namespace Sys2Proof

/-- A decoded descriptor. The docstring of a constructor is its row in the spec's assembler (30_encoding.md R95). -/
inductive Instr where
  /-- `VAND Qd, Qn, Qm`, OP 0x00, R141. -/
  | vand (d n m : QReg)
  /-- `VBIC Qd, Qn, Qm`, OP 0x01, R142. -/
  | vbic (d n m : QReg)
  /-- `VORR Qd, Qn, Qm`, OP 0x02, R143. -/
  | vorr (d n m : QReg)
  /-- `VORN Qd, Qn, Qm`, OP 0x03, R144. -/
  | vorn (d n m : QReg)
  /-- `VEOR Qd, Qn, Qm`, OP 0x04, R145. -/
  | veor (d n m : QReg)
  /-- `VADD.I8 Qd, Qn, Qm`, OP 0x08, R151. -/
  | vaddI8 (d n m : QReg)
  /-- `VADD.I8 Qd, Qn, Rs`, OP 0x08, R151. -/
  | vaddI8Scalar (d n : QReg)
  /-- `VADD.I16 Qd, Qn, Qm`, OP 0x08, R151. -/
  | vaddI16 (d n m : QReg)
  /-- `VADD.I16 Qd, Qn, Rs`, OP 0x08, R151. -/
  | vaddI16Scalar (d n : QReg)
  /-- `VADD.I32 Qd, Qn, Qm`, OP 0x08, R151. -/
  | vaddI32 (d n m : QReg)
  /-- `VADD.I32 Qd, Qn, Rs`, OP 0x08, R151. -/
  | vaddI32Scalar (d n : QReg)
  /-- `VSUB.I8 Qd, Qn, Qm`, OP 0x09, R152. -/
  | vsubI8 (d n m : QReg)
  /-- `VSUB.I8 Qd, Qn, Rs`, OP 0x09, R152. -/
  | vsubI8Scalar (d n : QReg)
  /-- `VSUB.I16 Qd, Qn, Qm`, OP 0x09, R152. -/
  | vsubI16 (d n m : QReg)
  /-- `VSUB.I16 Qd, Qn, Rs`, OP 0x09, R152. -/
  | vsubI16Scalar (d n : QReg)
  /-- `VSUB.I32 Qd, Qn, Qm`, OP 0x09, R152. -/
  | vsubI32 (d n m : QReg)
  /-- `VSUB.I32 Qd, Qn, Rs`, OP 0x09, R152. -/
  | vsubI32Scalar (d n : QReg)
  /-- `VMUL.I8 Qd, Qn, Qm`, OP 0x0A, R153. -/
  | vmulI8 (d n m : QReg)
  /-- `VMUL.I8 Qd, Qn, Rs`, OP 0x0A, R153. -/
  | vmulI8Scalar (d n : QReg)
  /-- `VMUL.I16 Qd, Qn, Qm`, OP 0x0A, R153. -/
  | vmulI16 (d n m : QReg)
  /-- `VMUL.I16 Qd, Qn, Rs`, OP 0x0A, R153. -/
  | vmulI16Scalar (d n : QReg)
  /-- `VMUL.I32 Qd, Qn, Qm`, OP 0x0A, R153. -/
  | vmulI32 (d n m : QReg)
  /-- `VMUL.I32 Qd, Qn, Rs`, OP 0x0A, R153. -/
  | vmulI32Scalar (d n : QReg)
  /-- `VMAX.S8 Qd, Qn, Qm`, OP 0x0B, R154. -/
  | vmaxS8 (d n m : QReg)
  /-- `VMAX.U8 Qd, Qn, Qm`, OP 0x0B, R154. -/
  | vmaxU8 (d n m : QReg)
  /-- `VMAX.S16 Qd, Qn, Qm`, OP 0x0B, R154. -/
  | vmaxS16 (d n m : QReg)
  /-- `VMAX.U16 Qd, Qn, Qm`, OP 0x0B, R154. -/
  | vmaxU16 (d n m : QReg)
  /-- `VMAX.S32 Qd, Qn, Qm`, OP 0x0B, R154. -/
  | vmaxS32 (d n m : QReg)
  /-- `VMAX.U32 Qd, Qn, Qm`, OP 0x0B, R154. -/
  | vmaxU32 (d n m : QReg)
  /-- `VMIN.S8 Qd, Qn, Qm`, OP 0x0C, R155. -/
  | vminS8 (d n m : QReg)
  /-- `VMIN.U8 Qd, Qn, Qm`, OP 0x0C, R155. -/
  | vminU8 (d n m : QReg)
  /-- `VMIN.S16 Qd, Qn, Qm`, OP 0x0C, R155. -/
  | vminS16 (d n m : QReg)
  /-- `VMIN.U16 Qd, Qn, Qm`, OP 0x0C, R155. -/
  | vminU16 (d n m : QReg)
  /-- `VMIN.S32 Qd, Qn, Qm`, OP 0x0C, R155. -/
  | vminS32 (d n m : QReg)
  /-- `VMIN.U32 Qd, Qn, Qm`, OP 0x0C, R155. -/
  | vminU32 (d n m : QReg)
  /-- `VABD.S8 Qd, Qn, Qm`, OP 0x0D, R156. -/
  | vabdS8 (d n m : QReg)
  /-- `VABD.U8 Qd, Qn, Qm`, OP 0x0D, R156. -/
  | vabdU8 (d n m : QReg)
  /-- `VABD.S16 Qd, Qn, Qm`, OP 0x0D, R156. -/
  | vabdS16 (d n m : QReg)
  /-- `VABD.U16 Qd, Qn, Qm`, OP 0x0D, R156. -/
  | vabdU16 (d n m : QReg)
  /-- `VABD.S32 Qd, Qn, Qm`, OP 0x0D, R156. -/
  | vabdS32 (d n m : QReg)
  /-- `VABD.U32 Qd, Qn, Qm`, OP 0x0D, R156. -/
  | vabdU32 (d n m : QReg)
  /-- `VHADD.S8 Qd, Qn, Qm`, OP 0x0E, R157. -/
  | vhaddS8 (d n m : QReg)
  /-- `VHADD.S8 Qd, Qn, Rs`, OP 0x0E, R157. -/
  | vhaddS8Scalar (d n : QReg)
  /-- `VHADD.U8 Qd, Qn, Qm`, OP 0x0E, R157. -/
  | vhaddU8 (d n m : QReg)
  /-- `VHADD.U8 Qd, Qn, Rs`, OP 0x0E, R157. -/
  | vhaddU8Scalar (d n : QReg)
  /-- `VHADD.S16 Qd, Qn, Qm`, OP 0x0E, R157. -/
  | vhaddS16 (d n m : QReg)
  /-- `VHADD.S16 Qd, Qn, Rs`, OP 0x0E, R157. -/
  | vhaddS16Scalar (d n : QReg)
  /-- `VHADD.U16 Qd, Qn, Qm`, OP 0x0E, R157. -/
  | vhaddU16 (d n m : QReg)
  /-- `VHADD.U16 Qd, Qn, Rs`, OP 0x0E, R157. -/
  | vhaddU16Scalar (d n : QReg)
  /-- `VHADD.S32 Qd, Qn, Qm`, OP 0x0E, R157. -/
  | vhaddS32 (d n m : QReg)
  /-- `VHADD.S32 Qd, Qn, Rs`, OP 0x0E, R157. -/
  | vhaddS32Scalar (d n : QReg)
  /-- `VHADD.U32 Qd, Qn, Qm`, OP 0x0E, R157. -/
  | vhaddU32 (d n m : QReg)
  /-- `VHADD.U32 Qd, Qn, Rs`, OP 0x0E, R157. -/
  | vhaddU32Scalar (d n : QReg)
  /-- `VHSUB.S8 Qd, Qn, Qm`, OP 0x0F, R158. -/
  | vhsubS8 (d n m : QReg)
  /-- `VHSUB.S8 Qd, Qn, Rs`, OP 0x0F, R158. -/
  | vhsubS8Scalar (d n : QReg)
  /-- `VHSUB.U8 Qd, Qn, Qm`, OP 0x0F, R158. -/
  | vhsubU8 (d n m : QReg)
  /-- `VHSUB.U8 Qd, Qn, Rs`, OP 0x0F, R158. -/
  | vhsubU8Scalar (d n : QReg)
  /-- `VHSUB.S16 Qd, Qn, Qm`, OP 0x0F, R158. -/
  | vhsubS16 (d n m : QReg)
  /-- `VHSUB.S16 Qd, Qn, Rs`, OP 0x0F, R158. -/
  | vhsubS16Scalar (d n : QReg)
  /-- `VHSUB.U16 Qd, Qn, Qm`, OP 0x0F, R158. -/
  | vhsubU16 (d n m : QReg)
  /-- `VHSUB.U16 Qd, Qn, Rs`, OP 0x0F, R158. -/
  | vhsubU16Scalar (d n : QReg)
  /-- `VHSUB.S32 Qd, Qn, Qm`, OP 0x0F, R158. -/
  | vhsubS32 (d n m : QReg)
  /-- `VHSUB.S32 Qd, Qn, Rs`, OP 0x0F, R158. -/
  | vhsubS32Scalar (d n : QReg)
  /-- `VHSUB.U32 Qd, Qn, Qm`, OP 0x0F, R158. -/
  | vhsubU32 (d n m : QReg)
  /-- `VHSUB.U32 Qd, Qn, Rs`, OP 0x0F, R158. -/
  | vhsubU32Scalar (d n : QReg)
  /-- `VQADD.S8 Qd, Qn, Qm`, OP 0x10, R159. -/
  | vqaddS8 (d n m : QReg)
  /-- `VQADD.S8 Qd, Qn, Rs`, OP 0x10, R159. -/
  | vqaddS8Scalar (d n : QReg)
  /-- `VQADD.U8 Qd, Qn, Qm`, OP 0x10, R159. -/
  | vqaddU8 (d n m : QReg)
  /-- `VQADD.U8 Qd, Qn, Rs`, OP 0x10, R159. -/
  | vqaddU8Scalar (d n : QReg)
  /-- `VQADD.S16 Qd, Qn, Qm`, OP 0x10, R159. -/
  | vqaddS16 (d n m : QReg)
  /-- `VQADD.S16 Qd, Qn, Rs`, OP 0x10, R159. -/
  | vqaddS16Scalar (d n : QReg)
  /-- `VQADD.U16 Qd, Qn, Qm`, OP 0x10, R159. -/
  | vqaddU16 (d n m : QReg)
  /-- `VQADD.U16 Qd, Qn, Rs`, OP 0x10, R159. -/
  | vqaddU16Scalar (d n : QReg)
  /-- `VQADD.S32 Qd, Qn, Qm`, OP 0x10, R159. -/
  | vqaddS32 (d n m : QReg)
  /-- `VQADD.S32 Qd, Qn, Rs`, OP 0x10, R159. -/
  | vqaddS32Scalar (d n : QReg)
  /-- `VQADD.U32 Qd, Qn, Qm`, OP 0x10, R159. -/
  | vqaddU32 (d n m : QReg)
  /-- `VQADD.U32 Qd, Qn, Rs`, OP 0x10, R159. -/
  | vqaddU32Scalar (d n : QReg)
  /-- `VQSUB.S8 Qd, Qn, Qm`, OP 0x11, R160. -/
  | vqsubS8 (d n m : QReg)
  /-- `VQSUB.S8 Qd, Qn, Rs`, OP 0x11, R160. -/
  | vqsubS8Scalar (d n : QReg)
  /-- `VQSUB.U8 Qd, Qn, Qm`, OP 0x11, R160. -/
  | vqsubU8 (d n m : QReg)
  /-- `VQSUB.U8 Qd, Qn, Rs`, OP 0x11, R160. -/
  | vqsubU8Scalar (d n : QReg)
  /-- `VQSUB.S16 Qd, Qn, Qm`, OP 0x11, R160. -/
  | vqsubS16 (d n m : QReg)
  /-- `VQSUB.S16 Qd, Qn, Rs`, OP 0x11, R160. -/
  | vqsubS16Scalar (d n : QReg)
  /-- `VQSUB.U16 Qd, Qn, Qm`, OP 0x11, R160. -/
  | vqsubU16 (d n m : QReg)
  /-- `VQSUB.U16 Qd, Qn, Rs`, OP 0x11, R160. -/
  | vqsubU16Scalar (d n : QReg)
  /-- `VQSUB.S32 Qd, Qn, Qm`, OP 0x11, R160. -/
  | vqsubS32 (d n m : QReg)
  /-- `VQSUB.S32 Qd, Qn, Rs`, OP 0x11, R160. -/
  | vqsubS32Scalar (d n : QReg)
  /-- `VQSUB.U32 Qd, Qn, Qm`, OP 0x11, R160. -/
  | vqsubU32 (d n m : QReg)
  /-- `VQSUB.U32 Qd, Qn, Rs`, OP 0x11, R160. -/
  | vqsubU32Scalar (d n : QReg)
  /-- `VSHL.S8 Qd, Qn, Qm`, OP 0x14, R171. -/
  | vshlS8 (d n m : QReg)
  /-- `VSHL.S8 Qd, Qn, Rs`, OP 0x14, R171. -/
  | vshlS8Scalar (d n : QReg)
  /-- `VSHL.U8 Qd, Qn, Qm`, OP 0x14, R171. -/
  | vshlU8 (d n m : QReg)
  /-- `VSHL.U8 Qd, Qn, Rs`, OP 0x14, R171. -/
  | vshlU8Scalar (d n : QReg)
  /-- `VSHL.S16 Qd, Qn, Qm`, OP 0x14, R171. -/
  | vshlS16 (d n m : QReg)
  /-- `VSHL.S16 Qd, Qn, Rs`, OP 0x14, R171. -/
  | vshlS16Scalar (d n : QReg)
  /-- `VSHL.U16 Qd, Qn, Qm`, OP 0x14, R171. -/
  | vshlU16 (d n m : QReg)
  /-- `VSHL.U16 Qd, Qn, Rs`, OP 0x14, R171. -/
  | vshlU16Scalar (d n : QReg)
  /-- `VSHL.S32 Qd, Qn, Qm`, OP 0x14, R171. -/
  | vshlS32 (d n m : QReg)
  /-- `VSHL.S32 Qd, Qn, Rs`, OP 0x14, R171. -/
  | vshlS32Scalar (d n : QReg)
  /-- `VSHL.U32 Qd, Qn, Qm`, OP 0x14, R171. -/
  | vshlU32 (d n m : QReg)
  /-- `VSHL.U32 Qd, Qn, Rs`, OP 0x14, R171. -/
  | vshlU32Scalar (d n : QReg)
  /-- `VRSHL.S8 Qd, Qn, Qm`, OP 0x15, R172. -/
  | vrshlS8 (d n m : QReg)
  /-- `VRSHL.S8 Qd, Qn, Rs`, OP 0x15, R172. -/
  | vrshlS8Scalar (d n : QReg)
  /-- `VRSHL.U8 Qd, Qn, Qm`, OP 0x15, R172. -/
  | vrshlU8 (d n m : QReg)
  /-- `VRSHL.U8 Qd, Qn, Rs`, OP 0x15, R172. -/
  | vrshlU8Scalar (d n : QReg)
  /-- `VRSHL.S16 Qd, Qn, Qm`, OP 0x15, R172. -/
  | vrshlS16 (d n m : QReg)
  /-- `VRSHL.S16 Qd, Qn, Rs`, OP 0x15, R172. -/
  | vrshlS16Scalar (d n : QReg)
  /-- `VRSHL.U16 Qd, Qn, Qm`, OP 0x15, R172. -/
  | vrshlU16 (d n m : QReg)
  /-- `VRSHL.U16 Qd, Qn, Rs`, OP 0x15, R172. -/
  | vrshlU16Scalar (d n : QReg)
  /-- `VRSHL.S32 Qd, Qn, Qm`, OP 0x15, R172. -/
  | vrshlS32 (d n m : QReg)
  /-- `VRSHL.S32 Qd, Qn, Rs`, OP 0x15, R172. -/
  | vrshlS32Scalar (d n : QReg)
  /-- `VRSHL.U32 Qd, Qn, Qm`, OP 0x15, R172. -/
  | vrshlU32 (d n m : QReg)
  /-- `VRSHL.U32 Qd, Qn, Rs`, OP 0x15, R172. -/
  | vrshlU32Scalar (d n : QReg)
  /-- `VQSHL.S8 Qd, Qn, Qm`, OP 0x16, R173. -/
  | vqshlS8 (d n m : QReg)
  /-- `VQSHL.S8 Qd, Qn, Rs`, OP 0x16, R173. -/
  | vqshlS8Scalar (d n : QReg)
  /-- `VQSHL.U8 Qd, Qn, Qm`, OP 0x16, R173. -/
  | vqshlU8 (d n m : QReg)
  /-- `VQSHL.U8 Qd, Qn, Rs`, OP 0x16, R173. -/
  | vqshlU8Scalar (d n : QReg)
  /-- `VQSHL.S16 Qd, Qn, Qm`, OP 0x16, R173. -/
  | vqshlS16 (d n m : QReg)
  /-- `VQSHL.S16 Qd, Qn, Rs`, OP 0x16, R173. -/
  | vqshlS16Scalar (d n : QReg)
  /-- `VQSHL.U16 Qd, Qn, Qm`, OP 0x16, R173. -/
  | vqshlU16 (d n m : QReg)
  /-- `VQSHL.U16 Qd, Qn, Rs`, OP 0x16, R173. -/
  | vqshlU16Scalar (d n : QReg)
  /-- `VQSHL.S32 Qd, Qn, Qm`, OP 0x16, R173. -/
  | vqshlS32 (d n m : QReg)
  /-- `VQSHL.S32 Qd, Qn, Rs`, OP 0x16, R173. -/
  | vqshlS32Scalar (d n : QReg)
  /-- `VQSHL.U32 Qd, Qn, Qm`, OP 0x16, R173. -/
  | vqshlU32 (d n m : QReg)
  /-- `VQSHL.U32 Qd, Qn, Rs`, OP 0x16, R173. -/
  | vqshlU32Scalar (d n : QReg)
  /-- `VQRSHL.S8 Qd, Qn, Qm`, OP 0x17, R174. -/
  | vqrshlS8 (d n m : QReg)
  /-- `VQRSHL.S8 Qd, Qn, Rs`, OP 0x17, R174. -/
  | vqrshlS8Scalar (d n : QReg)
  /-- `VQRSHL.U8 Qd, Qn, Qm`, OP 0x17, R174. -/
  | vqrshlU8 (d n m : QReg)
  /-- `VQRSHL.U8 Qd, Qn, Rs`, OP 0x17, R174. -/
  | vqrshlU8Scalar (d n : QReg)
  /-- `VQRSHL.S16 Qd, Qn, Qm`, OP 0x17, R174. -/
  | vqrshlS16 (d n m : QReg)
  /-- `VQRSHL.S16 Qd, Qn, Rs`, OP 0x17, R174. -/
  | vqrshlS16Scalar (d n : QReg)
  /-- `VQRSHL.U16 Qd, Qn, Qm`, OP 0x17, R174. -/
  | vqrshlU16 (d n m : QReg)
  /-- `VQRSHL.U16 Qd, Qn, Rs`, OP 0x17, R174. -/
  | vqrshlU16Scalar (d n : QReg)
  /-- `VQRSHL.S32 Qd, Qn, Qm`, OP 0x17, R174. -/
  | vqrshlS32 (d n m : QReg)
  /-- `VQRSHL.S32 Qd, Qn, Rs`, OP 0x17, R174. -/
  | vqrshlS32Scalar (d n : QReg)
  /-- `VQRSHL.U32 Qd, Qn, Qm`, OP 0x17, R174. -/
  | vqrshlU32 (d n m : QReg)
  /-- `VQRSHL.U32 Qd, Qn, Rs`, OP 0x17, R174. -/
  | vqrshlU32Scalar (d n : QReg)
  /-- `VMULLB.S8 Qd, Qn, Qm`, OP 0x18, R176. -/
  | vmullbS8 (d n m : QReg)
  /-- `VMULLB.U8 Qd, Qn, Qm`, OP 0x18, R176. -/
  | vmullbU8 (d n m : QReg)
  /-- `VMULLB.S16 Qd, Qn, Qm`, OP 0x18, R176. -/
  | vmullbS16 (d n m : QReg)
  /-- `VMULLB.U16 Qd, Qn, Qm`, OP 0x18, R176. -/
  | vmullbU16 (d n m : QReg)
  /-- `VMULLB.S32 Qd, Qn, Qm`, OP 0x18, R176. -/
  | vmullbS32 (d n m : QReg)
  /-- `VMULLB.U32 Qd, Qn, Qm`, OP 0x18, R176. -/
  | vmullbU32 (d n m : QReg)
  /-- `VMULLT.S8 Qd, Qn, Qm`, OP 0x19, R177. -/
  | vmulltS8 (d n m : QReg)
  /-- `VMULLT.U8 Qd, Qn, Qm`, OP 0x19, R177. -/
  | vmulltU8 (d n m : QReg)
  /-- `VMULLT.S16 Qd, Qn, Qm`, OP 0x19, R177. -/
  | vmulltS16 (d n m : QReg)
  /-- `VMULLT.U16 Qd, Qn, Qm`, OP 0x19, R177. -/
  | vmulltU16 (d n m : QReg)
  /-- `VMULLT.S32 Qd, Qn, Qm`, OP 0x19, R177. -/
  | vmulltS32 (d n m : QReg)
  /-- `VMULLT.U32 Qd, Qn, Qm`, OP 0x19, R177. -/
  | vmulltU32 (d n m : QReg)
  /-- `VQDMULH.S8 Qd, Qn, Qm`, OP 0x1A, R179. -/
  | vqdmulhS8 (d n m : QReg)
  /-- `VQDMULH.S8 Qd, Qn, Rs`, OP 0x1A, R179. -/
  | vqdmulhS8Scalar (d n : QReg)
  /-- `VQDMULH.S16 Qd, Qn, Qm`, OP 0x1A, R179. -/
  | vqdmulhS16 (d n m : QReg)
  /-- `VQDMULH.S16 Qd, Qn, Rs`, OP 0x1A, R179. -/
  | vqdmulhS16Scalar (d n : QReg)
  /-- `VQDMULH.S32 Qd, Qn, Qm`, OP 0x1A, R179. -/
  | vqdmulhS32 (d n m : QReg)
  /-- `VQDMULH.S32 Qd, Qn, Rs`, OP 0x1A, R179. -/
  | vqdmulhS32Scalar (d n : QReg)
  /-- `VQRDMULH.S8 Qd, Qn, Qm`, OP 0x1B, R180. -/
  | vqrdmulhS8 (d n m : QReg)
  /-- `VQRDMULH.S8 Qd, Qn, Rs`, OP 0x1B, R180. -/
  | vqrdmulhS8Scalar (d n : QReg)
  /-- `VQRDMULH.S16 Qd, Qn, Qm`, OP 0x1B, R180. -/
  | vqrdmulhS16 (d n m : QReg)
  /-- `VQRDMULH.S16 Qd, Qn, Rs`, OP 0x1B, R180. -/
  | vqrdmulhS16Scalar (d n : QReg)
  /-- `VQRDMULH.S32 Qd, Qn, Qm`, OP 0x1B, R180. -/
  | vqrdmulhS32 (d n m : QReg)
  /-- `VQRDMULH.S32 Qd, Qn, Rs`, OP 0x1B, R180. -/
  | vqrdmulhS32Scalar (d n : QReg)
  /-- `VCADD.I8 Qd, Qn, Qm, #90`, OP 0x1C, R191. -/
  | vcaddI8Rot90 (d n m : QReg)
  /-- `VCADD.I16 Qd, Qn, Qm, #90`, OP 0x1C, R191. -/
  | vcaddI16Rot90 (d n m : QReg)
  /-- `VCADD.I32 Qd, Qn, Qm, #90`, OP 0x1C, R191. -/
  | vcaddI32Rot90 (d n m : QReg)
  /-- `VCADD.I8 Qd, Qn, Qm, #270`, OP 0x1D, R192. -/
  | vcaddI8Rot270 (d n m : QReg)
  /-- `VCADD.I16 Qd, Qn, Qm, #270`, OP 0x1D, R192. -/
  | vcaddI16Rot270 (d n m : QReg)
  /-- `VCADD.I32 Qd, Qn, Qm, #270`, OP 0x1D, R192. -/
  | vcaddI32Rot270 (d n m : QReg)
  /-- `VQDMLADH.S8 Qd, Qn, Qm`, OP 0x20, R195. -/
  | vqdmladhS8 (d n m : QReg)
  /-- `VQDMLADH.S16 Qd, Qn, Qm`, OP 0x20, R195. -/
  | vqdmladhS16 (d n m : QReg)
  /-- `VQDMLADH.S32 Qd, Qn, Qm`, OP 0x20, R195. -/
  | vqdmladhS32 (d n m : QReg)
  /-- `VQDMLADHX.S8 Qd, Qn, Qm`, OP 0x21, R196. -/
  | vqdmladhxS8 (d n m : QReg)
  /-- `VQDMLADHX.S16 Qd, Qn, Qm`, OP 0x21, R196. -/
  | vqdmladhxS16 (d n m : QReg)
  /-- `VQDMLADHX.S32 Qd, Qn, Qm`, OP 0x21, R196. -/
  | vqdmladhxS32 (d n m : QReg)
  /-- `VQRDMLADH.S8 Qd, Qn, Qm`, OP 0x22, R197. -/
  | vqrdmladhS8 (d n m : QReg)
  /-- `VQRDMLADH.S16 Qd, Qn, Qm`, OP 0x22, R197. -/
  | vqrdmladhS16 (d n m : QReg)
  /-- `VQRDMLADH.S32 Qd, Qn, Qm`, OP 0x22, R197. -/
  | vqrdmladhS32 (d n m : QReg)
  /-- `VQRDMLADHX.S8 Qd, Qn, Qm`, OP 0x23, R198. -/
  | vqrdmladhxS8 (d n m : QReg)
  /-- `VQRDMLADHX.S16 Qd, Qn, Qm`, OP 0x23, R198. -/
  | vqrdmladhxS16 (d n m : QReg)
  /-- `VQRDMLADHX.S32 Qd, Qn, Qm`, OP 0x23, R198. -/
  | vqrdmladhxS32 (d n m : QReg)
  /-- `VQDMLSDH.S8 Qd, Qn, Qm`, OP 0x24, R199. -/
  | vqdmlsdhS8 (d n m : QReg)
  /-- `VQDMLSDH.S16 Qd, Qn, Qm`, OP 0x24, R199. -/
  | vqdmlsdhS16 (d n m : QReg)
  /-- `VQDMLSDH.S32 Qd, Qn, Qm`, OP 0x24, R199. -/
  | vqdmlsdhS32 (d n m : QReg)
  /-- `VQDMLSDHX.S8 Qd, Qn, Qm`, OP 0x25, R200. -/
  | vqdmlsdhxS8 (d n m : QReg)
  /-- `VQDMLSDHX.S16 Qd, Qn, Qm`, OP 0x25, R200. -/
  | vqdmlsdhxS16 (d n m : QReg)
  /-- `VQDMLSDHX.S32 Qd, Qn, Qm`, OP 0x25, R200. -/
  | vqdmlsdhxS32 (d n m : QReg)
  /-- `VQRDMLSDH.S8 Qd, Qn, Qm`, OP 0x26, R201. -/
  | vqrdmlsdhS8 (d n m : QReg)
  /-- `VQRDMLSDH.S16 Qd, Qn, Qm`, OP 0x26, R201. -/
  | vqrdmlsdhS16 (d n m : QReg)
  /-- `VQRDMLSDH.S32 Qd, Qn, Qm`, OP 0x26, R201. -/
  | vqrdmlsdhS32 (d n m : QReg)
  /-- `VQRDMLSDHX.S8 Qd, Qn, Qm`, OP 0x27, R202. -/
  | vqrdmlsdhxS8 (d n m : QReg)
  /-- `VQRDMLSDHX.S16 Qd, Qn, Qm`, OP 0x27, R202. -/
  | vqrdmlsdhxS16 (d n m : QReg)
  /-- `VQRDMLSDHX.S32 Qd, Qn, Qm`, OP 0x27, R202. -/
  | vqrdmlsdhxS32 (d n m : QReg)
  /-- `VADC.I32 Qd, Qn, Qm`, OP 0x28, R205. -/
  | vadcI32 (d n m : QReg)
  /-- `VADCI.I32 Qd, Qn, Qm`, OP 0x29, R206. -/
  | vadciI32 (d n m : QReg)
  /-- `VSBC.I32 Qd, Qn, Qm`, OP 0x2A, R207. -/
  | vsbcI32 (d n m : QReg)
  /-- `VSBCI.I32 Qd, Qn, Qm`, OP 0x2B, R208. -/
  | vsbciI32 (d n m : QReg)
  /-- `VMLADAV.S8 Qn, Qm`, OP 0x2C, R212. -/
  | vmladavS8 (n m : QReg)
  /-- `VMLADAV.U8 Qn, Qm`, OP 0x2C, R212. -/
  | vmladavU8 (n m : QReg)
  /-- `VMLADAV.S16 Qn, Qm`, OP 0x2C, R212. -/
  | vmladavS16 (n m : QReg)
  /-- `VMLADAV.U16 Qn, Qm`, OP 0x2C, R212. -/
  | vmladavU16 (n m : QReg)
  /-- `VMLADAV.S32 Qn, Qm`, OP 0x2C, R212. -/
  | vmladavS32 (n m : QReg)
  /-- `VMLADAV.U32 Qn, Qm`, OP 0x2C, R212. -/
  | vmladavU32 (n m : QReg)
  /-- `VMLADAVX.S8 Qn, Qm`, OP 0x2D, R213. -/
  | vmladavxS8 (n m : QReg)
  /-- `VMLADAVX.S16 Qn, Qm`, OP 0x2D, R213. -/
  | vmladavxS16 (n m : QReg)
  /-- `VMLADAVX.S32 Qn, Qm`, OP 0x2D, R213. -/
  | vmladavxS32 (n m : QReg)
  /-- `VMLSDAV.S8 Qn, Qm`, OP 0x2E, R214. -/
  | vmlsdavS8 (n m : QReg)
  /-- `VMLSDAV.S16 Qn, Qm`, OP 0x2E, R214. -/
  | vmlsdavS16 (n m : QReg)
  /-- `VMLSDAV.S32 Qn, Qm`, OP 0x2E, R214. -/
  | vmlsdavS32 (n m : QReg)
  /-- `VMLSDAVX.S8 Qn, Qm`, OP 0x2F, R215. -/
  | vmlsdavxS8 (n m : QReg)
  /-- `VMLSDAVX.S16 Qn, Qm`, OP 0x2F, R215. -/
  | vmlsdavxS16 (n m : QReg)
  /-- `VMLSDAVX.S32 Qn, Qm`, OP 0x2F, R215. -/
  | vmlsdavxS32 (n m : QReg)
  /-- `VRMLALDAVH.S32 Qn, Qm`, OP 0x30, R217. -/
  | vrmlaldavhS32 (n m : QReg)
  /-- `VRMLALDAVH.U32 Qn, Qm`, OP 0x30, R217. -/
  | vrmlaldavhU32 (n m : QReg)
  /-- `VRMLALDAVHX.S32 Qn, Qm`, OP 0x31, R218. -/
  | vrmlaldavhxS32 (n m : QReg)
  /-- `VRMLSLDAVH.S32 Qn, Qm`, OP 0x32, R219. -/
  | vrmlsldavhS32 (n m : QReg)
  /-- `VRMLSLDAVHX.S32 Qn, Qm`, OP 0x33, R220. -/
  | vrmlsldavhxS32 (n m : QReg)
  /-- `VADDV.S8 Qm`, OP 0x34, R221. -/
  | vaddvS8 (m : QReg)
  /-- `VADDV.U8 Qm`, OP 0x34, R221. -/
  | vaddvU8 (m : QReg)
  /-- `VADDV.S16 Qm`, OP 0x34, R221. -/
  | vaddvS16 (m : QReg)
  /-- `VADDV.U16 Qm`, OP 0x34, R221. -/
  | vaddvU16 (m : QReg)
  /-- `VADDV.S32 Qm`, OP 0x34, R221. -/
  | vaddvS32 (m : QReg)
  /-- `VADDV.U32 Qm`, OP 0x34, R221. -/
  | vaddvU32 (m : QReg)
  /-- `VLDRB.8 Qd, [ADDR]`, OP 0x35, R233. -/
  | vldrb8 (d : QReg)
  /-- `VLDRB.S16 Qd, [ADDR]`, OP 0x35, R233. -/
  | vldrbS16 (d : QReg)
  /-- `VLDRB.U16 Qd, [ADDR]`, OP 0x35, R233. -/
  | vldrbU16 (d : QReg)
  /-- `VLDRH.16 Qd, [ADDR]`, OP 0x35, R233. -/
  | vldrh16 (d : QReg)
  /-- `VLDRB.S32 Qd, [ADDR]`, OP 0x35, R233. -/
  | vldrbS32 (d : QReg)
  /-- `VLDRB.U32 Qd, [ADDR]`, OP 0x35, R233. -/
  | vldrbU32 (d : QReg)
  /-- `VLDRH.S32 Qd, [ADDR]`, OP 0x35, R233. -/
  | vldrhS32 (d : QReg)
  /-- `VLDRH.U32 Qd, [ADDR]`, OP 0x35, R233. -/
  | vldrhU32 (d : QReg)
  /-- `VLDRW.32 Qd, [ADDR]`, OP 0x35, R233. -/
  | vldrw32 (d : QReg)
  /-- `VSTRB.8 Qd, [ADDR]`, OP 0x36, R234. -/
  | vstrb8 (d : QReg)
  /-- `VSTRB.16 Qd, [ADDR]`, OP 0x36, R234. -/
  | vstrb16 (d : QReg)
  /-- `VSTRH.16 Qd, [ADDR]`, OP 0x36, R234. -/
  | vstrh16 (d : QReg)
  /-- `VSTRB.32 Qd, [ADDR]`, OP 0x36, R234. -/
  | vstrb32 (d : QReg)
  /-- `VSTRH.32 Qd, [ADDR]`, OP 0x36, R234. -/
  | vstrh32 (d : QReg)
  /-- `VSTRW.32 Qd, [ADDR]`, OP 0x36, R234. -/
  | vstrw32 (d : QReg)
  /-- `MSR VPR, Rs`, OP 0x38, R241. -/
  | msrVpr
  /-- `MRS RES, VPR`, OP 0x39, R242. -/
  | mrsVpr
  /-- `MSR STATUS, Rs`, OP 0x38, R243. -/
  | msrStatus
  /-- `MRS RES, STATUS`, OP 0x39, R244. -/
  | mrsStatus
  /-- `MSR LOOPCOUNT, Rs`, OP 0x38, R245. -/
  | msrLoopcount
  /-- `MRS RES, LOOPCOUNT`, OP 0x39, R246. -/
  | mrsLoopcount
  /-- `MSR LTPSIZE, Rs`, OP 0x38, R247. -/
  | msrLtpsize
  /-- `MRS RES, LTPSIZE`, OP 0x39, R248. -/
  | mrsLtpsize
  /-- `MSR ECI, Rs`, OP 0x38, R249. -/
  | msrEci
  /-- `MRS RES, ECI`, OP 0x39, R250. -/
  | mrsEci
  deriving DecidableEq, Repr

end Sys2Proof
end

