-- ==== Sys2Proof/WellFormed.lean ====
section
/-! DEFINITION. Which instructions are well formed: every register field an operation uses names one of the NQ
registers the machine has (30_encoding.md R84). The types of Syntax.lean rule out every other malformed term. -/

namespace Sys2Proof

/-- The vector registers an operation names: its used QD, QN and QM fields (30_encoding.md R84). -/
def Instr.registers : Instr → List QReg
  | .vand d n m | .vbic d n m | .vorr d n m | .vorn d n m | .veor d n m | .vaddI8 d n m | .vaddI16 d n m
  | .vaddI32 d n m | .vsubI8 d n m | .vsubI16 d n m | .vsubI32 d n m | .vmulI8 d n m | .vmulI16 d n m
  | .vmulI32 d n m | .vmaxS8 d n m | .vmaxU8 d n m | .vmaxS16 d n m | .vmaxU16 d n m | .vmaxS32 d n m
  | .vmaxU32 d n m | .vminS8 d n m | .vminU8 d n m | .vminS16 d n m | .vminU16 d n m | .vminS32 d n m
  | .vminU32 d n m | .vabdS8 d n m | .vabdU8 d n m | .vabdS16 d n m | .vabdU16 d n m | .vabdS32 d n m
  | .vabdU32 d n m | .vhaddS8 d n m | .vhaddU8 d n m | .vhaddS16 d n m | .vhaddU16 d n m | .vhaddS32 d n m
  | .vhaddU32 d n m | .vhsubS8 d n m | .vhsubU8 d n m | .vhsubS16 d n m | .vhsubU16 d n m | .vhsubS32 d n m
  | .vhsubU32 d n m | .vqaddS8 d n m | .vqaddU8 d n m | .vqaddS16 d n m | .vqaddU16 d n m | .vqaddS32 d n m
  | .vqaddU32 d n m | .vqsubS8 d n m | .vqsubU8 d n m | .vqsubS16 d n m | .vqsubU16 d n m | .vqsubS32 d n m
  | .vqsubU32 d n m | .vshlS8 d n m | .vshlU8 d n m | .vshlS16 d n m | .vshlU16 d n m | .vshlS32 d n m
  | .vshlU32 d n m | .vrshlS8 d n m | .vrshlU8 d n m | .vrshlS16 d n m | .vrshlU16 d n m | .vrshlS32 d n m
  | .vrshlU32 d n m | .vqshlS8 d n m | .vqshlU8 d n m | .vqshlS16 d n m | .vqshlU16 d n m | .vqshlS32 d n m
  | .vqshlU32 d n m | .vqrshlS8 d n m | .vqrshlU8 d n m | .vqrshlS16 d n m | .vqrshlU16 d n m | .vqrshlS32 d n m
  | .vqrshlU32 d n m | .vmullbS8 d n m | .vmullbU8 d n m | .vmullbS16 d n m | .vmullbU16 d n m | .vmullbS32 d n m
  | .vmullbU32 d n m | .vmulltS8 d n m | .vmulltU8 d n m | .vmulltS16 d n m | .vmulltU16 d n m | .vmulltS32 d n m
  | .vmulltU32 d n m | .vqdmulhS8 d n m | .vqdmulhS16 d n m | .vqdmulhS32 d n m | .vqrdmulhS8 d n m
  | .vqrdmulhS16 d n m | .vqrdmulhS32 d n m | .vcaddI8Rot90 d n m | .vcaddI16Rot90 d n m | .vcaddI32Rot90 d n m
  | .vcaddI8Rot270 d n m | .vcaddI16Rot270 d n m | .vcaddI32Rot270 d n m | .vqdmladhS8 d n m | .vqdmladhS16 d n m
  | .vqdmladhS32 d n m | .vqdmladhxS8 d n m | .vqdmladhxS16 d n m | .vqdmladhxS32 d n m | .vqrdmladhS8 d n m
  | .vqrdmladhS16 d n m | .vqrdmladhS32 d n m | .vqrdmladhxS8 d n m | .vqrdmladhxS16 d n m | .vqrdmladhxS32 d n m
  | .vqdmlsdhS8 d n m | .vqdmlsdhS16 d n m | .vqdmlsdhS32 d n m | .vqdmlsdhxS8 d n m | .vqdmlsdhxS16 d n m
  | .vqdmlsdhxS32 d n m | .vqrdmlsdhS8 d n m | .vqrdmlsdhS16 d n m | .vqrdmlsdhS32 d n m | .vqrdmlsdhxS8 d n m
  | .vqrdmlsdhxS16 d n m | .vqrdmlsdhxS32 d n m | .vadcI32 d n m | .vadciI32 d n m | .vsbcI32 d n m | .vsbciI32 d n m => [d, n, m]
  | .vaddI8Scalar d n | .vaddI16Scalar d n | .vaddI32Scalar d n | .vsubI8Scalar d n | .vsubI16Scalar d n
  | .vsubI32Scalar d n | .vmulI8Scalar d n | .vmulI16Scalar d n | .vmulI32Scalar d n | .vhaddS8Scalar d n
  | .vhaddU8Scalar d n | .vhaddS16Scalar d n | .vhaddU16Scalar d n | .vhaddS32Scalar d n | .vhaddU32Scalar d n
  | .vhsubS8Scalar d n | .vhsubU8Scalar d n | .vhsubS16Scalar d n | .vhsubU16Scalar d n | .vhsubS32Scalar d n
  | .vhsubU32Scalar d n | .vqaddS8Scalar d n | .vqaddU8Scalar d n | .vqaddS16Scalar d n | .vqaddU16Scalar d n
  | .vqaddS32Scalar d n | .vqaddU32Scalar d n | .vqsubS8Scalar d n | .vqsubU8Scalar d n | .vqsubS16Scalar d n
  | .vqsubU16Scalar d n | .vqsubS32Scalar d n | .vqsubU32Scalar d n | .vshlS8Scalar d n | .vshlU8Scalar d n
  | .vshlS16Scalar d n | .vshlU16Scalar d n | .vshlS32Scalar d n | .vshlU32Scalar d n | .vrshlS8Scalar d n
  | .vrshlU8Scalar d n | .vrshlS16Scalar d n | .vrshlU16Scalar d n | .vrshlS32Scalar d n | .vrshlU32Scalar d n
  | .vqshlS8Scalar d n | .vqshlU8Scalar d n | .vqshlS16Scalar d n | .vqshlU16Scalar d n | .vqshlS32Scalar d n
  | .vqshlU32Scalar d n | .vqrshlS8Scalar d n | .vqrshlU8Scalar d n | .vqrshlS16Scalar d n | .vqrshlU16Scalar d n
  | .vqrshlS32Scalar d n | .vqrshlU32Scalar d n | .vqdmulhS8Scalar d n | .vqdmulhS16Scalar d n
  | .vqdmulhS32Scalar d n | .vqrdmulhS8Scalar d n | .vqrdmulhS16Scalar d n | .vqrdmulhS32Scalar d n => [d, n]
  | .vmladavS8 n m | .vmladavU8 n m | .vmladavS16 n m | .vmladavU16 n m | .vmladavS32 n m | .vmladavU32 n m
  | .vmladavxS8 n m | .vmladavxS16 n m | .vmladavxS32 n m | .vmlsdavS8 n m | .vmlsdavS16 n m | .vmlsdavS32 n m
  | .vmlsdavxS8 n m | .vmlsdavxS16 n m | .vmlsdavxS32 n m | .vrmlaldavhS32 n m | .vrmlaldavhU32 n m
  | .vrmlaldavhxS32 n m | .vrmlsldavhS32 n m | .vrmlsldavhxS32 n m => [n, m]
  | .vaddvS8 m | .vaddvU8 m | .vaddvS16 m | .vaddvU16 m | .vaddvS32 m | .vaddvU32 m => [m]
  | .vldrb8 d | .vldrbS16 d | .vldrbU16 d | .vldrh16 d | .vldrbS32 d | .vldrbU32 d | .vldrhS32 d | .vldrhU32 d
  | .vldrw32 d | .vstrb8 d | .vstrb16 d | .vstrh16 d | .vstrb32 d | .vstrh32 d | .vstrw32 d => [d]
  | .msrVpr | .mrsVpr | .msrStatus | .mrsStatus | .msrLoopcount | .mrsLoopcount | .msrLtpsize | .mrsLtpsize | .msrEci
  | .mrsEci => []

/-- Every register named is below NQ; a descriptor for which this fails is illegal (30_encoding.md R84). -/
def Instr.wellFormed (nq : Nat) (i : Instr) : Bool :=
  i.registers.all fun r => decide (r.val < nq)

end Sys2Proof
end

