-- ==== Sys2Proof/Decode.lean ====
section
/-! DEFINITION. The descriptor word: its fields (30_encoding.md R81), the legality table (R90) as a total decoder that
refuses by name, and the encoder written from the same table. -/

namespace Sys2Proof

/-- Why a descriptor word is no operation. The PSU reports each of them as ILLEGAL (60_exceptions.md R253). -/
inductive Illegal where
  /-- RSV, bits [31:21], is not 0 (R87). Safe: the spec refuses it. -/
  | reservedBits
  /-- OP is one of the reserved values of R89 (R91). Safe. -/
  | reservedOp
  /-- SIZE is a value the row does not allow; 3 always is (R90, R91). Safe. -/
  | laneSize
  /-- U is a value the row does not allow (R83, R90). Safe. -/
  | signedness
  /-- S = 1 where the row has no scalar form (R85, R90). Safe. -/
  | scalarForm
  /-- MSIZE is a value the row does not allow (R86, R90). Safe. -/
  | memorySize
  /-- A register field the row does not use is not 0 (R88, R90). Safe. -/
  | registerField
  /-- SYSREG is 5, 6 or 7 (R91, R97). Safe. -/
  | stateSelector
  /-- A register field the row uses is NQ or more (R84). Safe. -/
  | noSuchRegister
  deriving DecidableEq, Repr

/-- What decoding answers: an operation, or the name of what makes the word illegal. -/
abbrev Decoded := Except Illegal Instr

/-- The nine fields of a descriptor word (30_encoding.md R81). -/
structure Fields where
  /-- OP, bits [5:0]. -/
  op : BitVec 6
  /-- SIZE, bits [7:6]. -/
  size : BitVec 2
  /-- U, bit [8]. -/
  u : Bool
  /-- QD, bits [11:9]. -/
  qd : BitVec 3
  /-- QN, bits [14:12]; SYSREG for MSR and MRS (R97). -/
  qn : BitVec 3
  /-- QM, bits [17:15]. -/
  qm : BitVec 3
  /-- S, bit [18]. -/
  s : Bool
  /-- MSIZE, bits [20:19]. -/
  msize : BitVec 2
  /-- RSV, bits [31:21]. -/
  rsv : BitVec 11
  deriving DecidableEq, Repr

/-- The fields of a descriptor word, at the bit positions of R81. -/
def Fields.ofWord (w : Word) : Fields where
  op := w.extractLsb' 0 6
  size := w.extractLsb' 6 2
  u := w.getLsbD 8
  qd := w.extractLsb' 9 3
  qn := w.extractLsb' 12 3
  qm := w.extractLsb' 15 3
  s := w.getLsbD 18
  msize := w.extractLsb' 19 2
  rsv := w.extractLsb' 21 11

/-- Goes on with `k` where a field has a value its row allows, and refuses by name where it has not. -/
def require (ok : Bool) (why : Illegal) (k : Decoded) : Decoded :=
  if ok then k else .error why

/-- SIZE 0, 1 or 2 selects among three forms; 3 is never legal (R82, R91). -/
def bySize (f : Fields) (k8 k16 k32 : Decoded) : Decoded :=
  match f.size with
  | 0#2 => k8
  | 1#2 => k16
  | 2#2 => k32
  | _ => .error .laneSize

/-- U selects between the signed and the unsigned form (R83). -/
def bySign (f : Fields) (signed unsigned : Decoded) : Decoded :=
  if f.u then unsigned else signed

/-- The form with three vector operands. -/
def vectorForm (f : Fields) (mk : QReg → QReg → QReg → Instr) : Decoded :=
  .ok (mk f.qd.toFin f.qn.toFin f.qm.toFin)

/-- S selects between the vector form and the scalar form, which needs QM = 0 (R85). -/
def byOperand (f : Fields) (mk : QReg → QReg → QReg → Instr) (mkScalar : QReg → QReg → Instr) : Decoded :=
  if f.s then require (f.qm == 0) .registerField (.ok (mkScalar f.qd.toFin f.qn.toFin)) else vectorForm f mk

/-- A row whose S and MSIZE must be 0 (R85, R86). -/
def plainRow (f : Fields) (k : Decoded) : Decoded :=
  require (!f.s) .scalarForm (require (f.msize == 0) .memorySize k)

/-- A row whose U must be 0 besides (R83). -/
def signlessRow (f : Fields) (k : Decoded) : Decoded :=
  require (!f.u) .signedness k

/-- OP 0x00 to 0x04: SIZE = 0, U = 0, S = 0. -/
def bitwiseRow (f : Fields) (mk : QReg → QReg → QReg → Instr) : Decoded :=
  plainRow f (signlessRow f (require (f.size == 0) .laneSize (vectorForm f mk)))

/-- SIZE 0 to 2, U = 0, S = 0: VCADD and the dual-high family. -/
def vectorRow (f : Fields) (k8 k16 k32 : QReg → QReg → QReg → Instr) : Decoded :=
  plainRow f (signlessRow f (bySize f (vectorForm f k8) (vectorForm f k16) (vectorForm f k32)))

/-- SIZE 0 to 2, U = 0, S 0 or 1: VADD, VSUB, VMUL, VQDMULH, VQRDMULH. -/
def scalarRow (f : Fields) (k8 k16 k32 : QReg → QReg → QReg → Instr) (s8 s16 s32 : QReg → QReg → Instr) : Decoded :=
  require (f.msize == 0) .memorySize
    (signlessRow f (bySize f (byOperand f k8 s8) (byOperand f k16 s16) (byOperand f k32 s32)))

/-- SIZE 0 to 2, U 0 or 1, S = 0: VMAX, VMIN, VABD, VMULLB, VMULLT. -/
def signedRow (f : Fields) (s8 s16 s32 u8 u16 u32 : QReg → QReg → QReg → Instr) : Decoded :=
  plainRow f (bySign f (bySize f (vectorForm f s8) (vectorForm f s16) (vectorForm f s32))
    (bySize f (vectorForm f u8) (vectorForm f u16) (vectorForm f u32)))

/-- SIZE 0 to 2, U 0 or 1, S 0 or 1: the halving, saturating and shifting operations. -/
def signedScalarRow (f : Fields) (s8 s16 s32 u8 u16 u32 : QReg → QReg → QReg → Instr)
    (ss8 ss16 ss32 su8 su16 su32 : QReg → QReg → Instr) : Decoded :=
  require (f.msize == 0) .memorySize
    (bySign f (bySize f (byOperand f s8 ss8) (byOperand f s16 ss16) (byOperand f s32 ss32))
      (bySize f (byOperand f u8 su8) (byOperand f u16 su16) (byOperand f u32 su32)))

/-- SIZE = 2, U = 0, S = 0: the carry family. -/
def carryRow (f : Fields) (mk : QReg → QReg → QReg → Instr) : Decoded :=
  plainRow f (signlessRow f (require (f.size == 2) .laneSize (vectorForm f mk)))

/-- The form of a reduction of two vectors, which needs QD = 0 (R90). -/
def reductionForm (f : Fields) (mk : QReg → QReg → Instr) : Decoded :=
  require (f.qd == 0) .registerField (.ok (mk f.qn.toFin f.qm.toFin))

/-- SIZE 0 to 2, U = 0, QD = 0: VMLADAVX, VMLSDAV, VMLSDAVX. -/
def dualRow (f : Fields) (k8 k16 k32 : QReg → QReg → Instr) : Decoded :=
  plainRow f (signlessRow f (bySize f (reductionForm f k8) (reductionForm f k16) (reductionForm f k32)))

/-- SIZE 0 to 2, U 0 or 1, QD = 0: VMLADAV. -/
def signedDualRow (f : Fields) (s8 s16 s32 u8 u16 u32 : QReg → QReg → Instr) : Decoded :=
  plainRow f (bySign f (bySize f (reductionForm f s8) (reductionForm f s16) (reductionForm f s32))
    (bySize f (reductionForm f u8) (reductionForm f u16) (reductionForm f u32)))

/-- SIZE = 2, U = 0, QD = 0: VRMLALDAVHX, VRMLSLDAVH, VRMLSLDAVHX. -/
def longRow (f : Fields) (mk : QReg → QReg → Instr) : Decoded :=
  plainRow f (signlessRow f (require (f.size == 2) .laneSize (reductionForm f mk)))

/-- SIZE = 2, U 0 or 1, QD = 0: VRMLALDAVH. -/
def signedLongRow (f : Fields) (mkS mkU : QReg → QReg → Instr) : Decoded :=
  plainRow f (require (f.size == 2) .laneSize (bySign f (reductionForm f mkS) (reductionForm f mkU)))

/-- SIZE 0 to 2, U 0 or 1, QD = QN = 0: VADDV. -/
def sumRow (f : Fields) (s8 s16 s32 u8 u16 u32 : QReg → Instr) : Decoded :=
  plainRow f (require (f.qd == 0 && f.qn == 0) .registerField
    (bySign f (bySize f (.ok (s8 f.qm.toFin)) (.ok (s16 f.qm.toFin)) (.ok (s32 f.qm.toFin)))
      (bySize f (.ok (u8 f.qm.toFin)) (.ok (u16 f.qm.toFin)) (.ok (u32 f.qm.toFin)))))

/-- A memory row: S = 0 and QN = QM = 0 (R90). -/
def memoryRow (f : Fields) (k : Decoded) : Decoded :=
  require (!f.s) .scalarForm (require (f.qn == 0 && f.qm == 0) .registerField k)

/-- OP 0x35, VLDR: MSIZE at most SIZE, U 0 or 1 where MSIZE < SIZE and 0 where they are equal (R86, R90). -/
def loadRow (f : Fields) : Decoded :=
  memoryRow f
    (match f.size, f.msize with
      | 0#2, 0#2 => signlessRow f (.ok (.vldrb8 f.qd.toFin))
      | 1#2, 0#2 => bySign f (.ok (.vldrbS16 f.qd.toFin)) (.ok (.vldrbU16 f.qd.toFin))
      | 1#2, 1#2 => signlessRow f (.ok (.vldrh16 f.qd.toFin))
      | 2#2, 0#2 => bySign f (.ok (.vldrbS32 f.qd.toFin)) (.ok (.vldrbU32 f.qd.toFin))
      | 2#2, 1#2 => bySign f (.ok (.vldrhS32 f.qd.toFin)) (.ok (.vldrhU32 f.qd.toFin))
      | 2#2, 2#2 => signlessRow f (.ok (.vldrw32 f.qd.toFin))
      | 3#2, _ => .error .laneSize
      | _, _ => .error .memorySize)

/-- OP 0x36, VSTR: MSIZE at most SIZE, U = 0 (R86, R90). -/
def storeRow (f : Fields) : Decoded :=
  memoryRow f (signlessRow f
    (match f.size, f.msize with
      | 0#2, 0#2 => .ok (.vstrb8 f.qd.toFin)
      | 1#2, 0#2 => .ok (.vstrb16 f.qd.toFin)
      | 1#2, 1#2 => .ok (.vstrh16 f.qd.toFin)
      | 2#2, 0#2 => .ok (.vstrb32 f.qd.toFin)
      | 2#2, 1#2 => .ok (.vstrh32 f.qd.toFin)
      | 2#2, 2#2 => .ok (.vstrw32 f.qd.toFin)
      | 3#2, _ => .error .laneSize
      | _, _ => .error .memorySize))

/-- OP 0x38 and 0x39: SIZE, U, S, MSIZE, QD and QM are 0 and QN is SYSREG, 0 to 4 (R97). -/
def sysregRow (f : Fields) (vpr status loopcount ltpsize eci : Instr) : Decoded :=
  plainRow f (signlessRow f (require (f.size == 0) .laneSize
    (require (f.qd == 0 && f.qm == 0) .registerField
      (match f.qn with
        | 0#3 => .ok vpr
        | 1#3 => .ok status
        | 2#3 => .ok loopcount
        | 3#3 => .ok ltpsize
        | 4#3 => .ok eci
        | _ => .error .stateSelector))))

/-- The legality table R90, one arm per OP; every other OP is reserved (R89, R91). -/
def decodeFields (f : Fields) : Decoded :=
  require (f.rsv == 0) .reservedBits
    (match f.op with
    | 0x00#6 => bitwiseRow f .vand
    | 0x01#6 => bitwiseRow f .vbic
    | 0x02#6 => bitwiseRow f .vorr
    | 0x03#6 => bitwiseRow f .vorn
    | 0x04#6 => bitwiseRow f .veor
    | 0x08#6 => scalarRow f .vaddI8 .vaddI16 .vaddI32
      .vaddI8Scalar .vaddI16Scalar .vaddI32Scalar
    | 0x09#6 => scalarRow f .vsubI8 .vsubI16 .vsubI32
      .vsubI8Scalar .vsubI16Scalar .vsubI32Scalar
    | 0x0A#6 => scalarRow f .vmulI8 .vmulI16 .vmulI32
      .vmulI8Scalar .vmulI16Scalar .vmulI32Scalar
    | 0x0B#6 => signedRow f .vmaxS8 .vmaxS16 .vmaxS32 .vmaxU8 .vmaxU16 .vmaxU32
    | 0x0C#6 => signedRow f .vminS8 .vminS16 .vminS32 .vminU8 .vminU16 .vminU32
    | 0x0D#6 => signedRow f .vabdS8 .vabdS16 .vabdS32 .vabdU8 .vabdU16 .vabdU32
    | 0x0E#6 => signedScalarRow f .vhaddS8 .vhaddS16 .vhaddS32 .vhaddU8 .vhaddU16 .vhaddU32
      .vhaddS8Scalar .vhaddS16Scalar .vhaddS32Scalar
      .vhaddU8Scalar .vhaddU16Scalar .vhaddU32Scalar
    | 0x0F#6 => signedScalarRow f .vhsubS8 .vhsubS16 .vhsubS32 .vhsubU8 .vhsubU16 .vhsubU32
      .vhsubS8Scalar .vhsubS16Scalar .vhsubS32Scalar
      .vhsubU8Scalar .vhsubU16Scalar .vhsubU32Scalar
    | 0x10#6 => signedScalarRow f .vqaddS8 .vqaddS16 .vqaddS32 .vqaddU8 .vqaddU16 .vqaddU32
      .vqaddS8Scalar .vqaddS16Scalar .vqaddS32Scalar
      .vqaddU8Scalar .vqaddU16Scalar .vqaddU32Scalar
    | 0x11#6 => signedScalarRow f .vqsubS8 .vqsubS16 .vqsubS32 .vqsubU8 .vqsubU16 .vqsubU32
      .vqsubS8Scalar .vqsubS16Scalar .vqsubS32Scalar
      .vqsubU8Scalar .vqsubU16Scalar .vqsubU32Scalar
    | 0x14#6 => signedScalarRow f .vshlS8 .vshlS16 .vshlS32 .vshlU8 .vshlU16 .vshlU32
      .vshlS8Scalar .vshlS16Scalar .vshlS32Scalar
      .vshlU8Scalar .vshlU16Scalar .vshlU32Scalar
    | 0x15#6 => signedScalarRow f .vrshlS8 .vrshlS16 .vrshlS32 .vrshlU8 .vrshlU16 .vrshlU32
      .vrshlS8Scalar .vrshlS16Scalar .vrshlS32Scalar
      .vrshlU8Scalar .vrshlU16Scalar .vrshlU32Scalar
    | 0x16#6 => signedScalarRow f .vqshlS8 .vqshlS16 .vqshlS32 .vqshlU8 .vqshlU16 .vqshlU32
      .vqshlS8Scalar .vqshlS16Scalar .vqshlS32Scalar
      .vqshlU8Scalar .vqshlU16Scalar .vqshlU32Scalar
    | 0x17#6 => signedScalarRow f .vqrshlS8 .vqrshlS16 .vqrshlS32 .vqrshlU8 .vqrshlU16 .vqrshlU32
      .vqrshlS8Scalar .vqrshlS16Scalar .vqrshlS32Scalar
      .vqrshlU8Scalar .vqrshlU16Scalar .vqrshlU32Scalar
    | 0x18#6 => signedRow f .vmullbS8 .vmullbS16 .vmullbS32 .vmullbU8 .vmullbU16 .vmullbU32
    | 0x19#6 => signedRow f .vmulltS8 .vmulltS16 .vmulltS32 .vmulltU8 .vmulltU16 .vmulltU32
    | 0x1A#6 => scalarRow f .vqdmulhS8 .vqdmulhS16 .vqdmulhS32
      .vqdmulhS8Scalar .vqdmulhS16Scalar .vqdmulhS32Scalar
    | 0x1B#6 => scalarRow f .vqrdmulhS8 .vqrdmulhS16 .vqrdmulhS32
      .vqrdmulhS8Scalar .vqrdmulhS16Scalar .vqrdmulhS32Scalar
    | 0x1C#6 => vectorRow f .vcaddI8Rot90 .vcaddI16Rot90 .vcaddI32Rot90
    | 0x1D#6 => vectorRow f .vcaddI8Rot270 .vcaddI16Rot270 .vcaddI32Rot270
    | 0x20#6 => vectorRow f .vqdmladhS8 .vqdmladhS16 .vqdmladhS32
    | 0x21#6 => vectorRow f .vqdmladhxS8 .vqdmladhxS16 .vqdmladhxS32
    | 0x22#6 => vectorRow f .vqrdmladhS8 .vqrdmladhS16 .vqrdmladhS32
    | 0x23#6 => vectorRow f .vqrdmladhxS8 .vqrdmladhxS16 .vqrdmladhxS32
    | 0x24#6 => vectorRow f .vqdmlsdhS8 .vqdmlsdhS16 .vqdmlsdhS32
    | 0x25#6 => vectorRow f .vqdmlsdhxS8 .vqdmlsdhxS16 .vqdmlsdhxS32
    | 0x26#6 => vectorRow f .vqrdmlsdhS8 .vqrdmlsdhS16 .vqrdmlsdhS32
    | 0x27#6 => vectorRow f .vqrdmlsdhxS8 .vqrdmlsdhxS16 .vqrdmlsdhxS32
    | 0x28#6 => carryRow f .vadcI32
    | 0x29#6 => carryRow f .vadciI32
    | 0x2A#6 => carryRow f .vsbcI32
    | 0x2B#6 => carryRow f .vsbciI32
    | 0x2C#6 => signedDualRow f .vmladavS8 .vmladavS16 .vmladavS32 .vmladavU8 .vmladavU16 .vmladavU32
    | 0x2D#6 => dualRow f .vmladavxS8 .vmladavxS16 .vmladavxS32
    | 0x2E#6 => dualRow f .vmlsdavS8 .vmlsdavS16 .vmlsdavS32
    | 0x2F#6 => dualRow f .vmlsdavxS8 .vmlsdavxS16 .vmlsdavxS32
    | 0x30#6 => signedLongRow f .vrmlaldavhS32 .vrmlaldavhU32
    | 0x31#6 => longRow f .vrmlaldavhxS32
    | 0x32#6 => longRow f .vrmlsldavhS32
    | 0x33#6 => longRow f .vrmlsldavhxS32
    | 0x34#6 => sumRow f .vaddvS8 .vaddvS16 .vaddvS32 .vaddvU8 .vaddvU16 .vaddvU32
    | 0x35#6 => loadRow f
    | 0x36#6 => storeRow f
    | 0x38#6 => sysregRow f .msrVpr .msrStatus .msrLoopcount .msrLtpsize .msrEci
    | 0x39#6 => sysregRow f .mrsVpr .mrsStatus .mrsLoopcount .mrsLtpsize .mrsEci
    | _ => .error .reservedOp)

/-- Decoding a descriptor word, total on all 2^32 words (R80, R88, D4). -/
def decode (w : Word) : Decoded :=
  decodeFields (Fields.ofWord w)

/-- Legal(DESC) of 40_predication.md R123 step 1: the word decodes, and every register field it uses is below NQ
(30_encoding.md R84). -/
def decodeFor (nq : Nat) (w : Word) : Decoded :=
  match decode w with
  | .error why => .error why
  | .ok i => if i.wellFormed nq then .ok i else .error .noSuchRegister

/-- The host's entry: the operation in the low `nbits` bits of `w`, every higher bit of the one 32-bit descriptor word
0 (R80, R94). A word of more than 32 bits is no descriptor. -/
def decodeTableWord (nbits w : Nat) : Option Instr :=
  if nbits ≤ 32 then (decode (BitVec.ofNat 32 (w % 2 ^ nbits))).toOption else none

/-! ## The encoder -/

/-- The word of nine fields, most significant first (R81). -/
def Fields.toWord (f : Fields) : Word :=
  f.rsv ++ f.msize ++ BitVec.ofBool f.s ++ f.qm ++ f.qn ++ f.qd ++ BitVec.ofBool f.u ++ f.size ++ f.op

/-- The fields of a vector form (S = 0, MSIZE = 0, RSV = 0). -/
def vectorFields (op : BitVec 6) (size : BitVec 2) (u : Bool) (d n m : QReg) : Fields where
  op := op
  size := size
  u := u
  qd := .ofFin d
  qn := .ofFin n
  qm := .ofFin m
  s := false
  msize := 0
  rsv := 0

/-- The fields of a scalar form: S = 1 and QM = 0 (R85). -/
def scalarFields (op : BitVec 6) (size : BitVec 2) (u : Bool) (d n : QReg) : Fields :=
  { vectorFields op size u d n 0 with s := true }

/-- The fields of a memory form: QN = QM = 0 and MSIZE (R86). -/
def memoryFields (op : BitVec 6) (size : BitVec 2) (u : Bool) (d : QReg) (msize : BitVec 2) : Fields :=
  { vectorFields op size u d 0 0 with msize := msize }

/-- The fields of MSR and MRS: SYSREG in QN, every other field 0 (R97). -/
def stateFields (op : BitVec 6) (sysreg : QReg) : Fields :=
  vectorFields op 0 false 0 sysreg 0

/-- The fields of every operation (R90). -/
def Instr.fields : Instr → Fields
  | .vand d n m => vectorFields 0x00 0 false d n m
  | .vbic d n m => vectorFields 0x01 0 false d n m
  | .vorr d n m => vectorFields 0x02 0 false d n m
  | .vorn d n m => vectorFields 0x03 0 false d n m
  | .veor d n m => vectorFields 0x04 0 false d n m
  | .vaddI8 d n m => vectorFields 0x08 0 false d n m
  | .vaddI8Scalar d n => scalarFields 0x08 0 false d n
  | .vaddI16 d n m => vectorFields 0x08 1 false d n m
  | .vaddI16Scalar d n => scalarFields 0x08 1 false d n
  | .vaddI32 d n m => vectorFields 0x08 2 false d n m
  | .vaddI32Scalar d n => scalarFields 0x08 2 false d n
  | .vsubI8 d n m => vectorFields 0x09 0 false d n m
  | .vsubI8Scalar d n => scalarFields 0x09 0 false d n
  | .vsubI16 d n m => vectorFields 0x09 1 false d n m
  | .vsubI16Scalar d n => scalarFields 0x09 1 false d n
  | .vsubI32 d n m => vectorFields 0x09 2 false d n m
  | .vsubI32Scalar d n => scalarFields 0x09 2 false d n
  | .vmulI8 d n m => vectorFields 0x0A 0 false d n m
  | .vmulI8Scalar d n => scalarFields 0x0A 0 false d n
  | .vmulI16 d n m => vectorFields 0x0A 1 false d n m
  | .vmulI16Scalar d n => scalarFields 0x0A 1 false d n
  | .vmulI32 d n m => vectorFields 0x0A 2 false d n m
  | .vmulI32Scalar d n => scalarFields 0x0A 2 false d n
  | .vmaxS8 d n m => vectorFields 0x0B 0 false d n m
  | .vmaxU8 d n m => vectorFields 0x0B 0 true d n m
  | .vmaxS16 d n m => vectorFields 0x0B 1 false d n m
  | .vmaxU16 d n m => vectorFields 0x0B 1 true d n m
  | .vmaxS32 d n m => vectorFields 0x0B 2 false d n m
  | .vmaxU32 d n m => vectorFields 0x0B 2 true d n m
  | .vminS8 d n m => vectorFields 0x0C 0 false d n m
  | .vminU8 d n m => vectorFields 0x0C 0 true d n m
  | .vminS16 d n m => vectorFields 0x0C 1 false d n m
  | .vminU16 d n m => vectorFields 0x0C 1 true d n m
  | .vminS32 d n m => vectorFields 0x0C 2 false d n m
  | .vminU32 d n m => vectorFields 0x0C 2 true d n m
  | .vabdS8 d n m => vectorFields 0x0D 0 false d n m
  | .vabdU8 d n m => vectorFields 0x0D 0 true d n m
  | .vabdS16 d n m => vectorFields 0x0D 1 false d n m
  | .vabdU16 d n m => vectorFields 0x0D 1 true d n m
  | .vabdS32 d n m => vectorFields 0x0D 2 false d n m
  | .vabdU32 d n m => vectorFields 0x0D 2 true d n m
  | .vhaddS8 d n m => vectorFields 0x0E 0 false d n m
  | .vhaddS8Scalar d n => scalarFields 0x0E 0 false d n
  | .vhaddU8 d n m => vectorFields 0x0E 0 true d n m
  | .vhaddU8Scalar d n => scalarFields 0x0E 0 true d n
  | .vhaddS16 d n m => vectorFields 0x0E 1 false d n m
  | .vhaddS16Scalar d n => scalarFields 0x0E 1 false d n
  | .vhaddU16 d n m => vectorFields 0x0E 1 true d n m
  | .vhaddU16Scalar d n => scalarFields 0x0E 1 true d n
  | .vhaddS32 d n m => vectorFields 0x0E 2 false d n m
  | .vhaddS32Scalar d n => scalarFields 0x0E 2 false d n
  | .vhaddU32 d n m => vectorFields 0x0E 2 true d n m
  | .vhaddU32Scalar d n => scalarFields 0x0E 2 true d n
  | .vhsubS8 d n m => vectorFields 0x0F 0 false d n m
  | .vhsubS8Scalar d n => scalarFields 0x0F 0 false d n
  | .vhsubU8 d n m => vectorFields 0x0F 0 true d n m
  | .vhsubU8Scalar d n => scalarFields 0x0F 0 true d n
  | .vhsubS16 d n m => vectorFields 0x0F 1 false d n m
  | .vhsubS16Scalar d n => scalarFields 0x0F 1 false d n
  | .vhsubU16 d n m => vectorFields 0x0F 1 true d n m
  | .vhsubU16Scalar d n => scalarFields 0x0F 1 true d n
  | .vhsubS32 d n m => vectorFields 0x0F 2 false d n m
  | .vhsubS32Scalar d n => scalarFields 0x0F 2 false d n
  | .vhsubU32 d n m => vectorFields 0x0F 2 true d n m
  | .vhsubU32Scalar d n => scalarFields 0x0F 2 true d n
  | .vqaddS8 d n m => vectorFields 0x10 0 false d n m
  | .vqaddS8Scalar d n => scalarFields 0x10 0 false d n
  | .vqaddU8 d n m => vectorFields 0x10 0 true d n m
  | .vqaddU8Scalar d n => scalarFields 0x10 0 true d n
  | .vqaddS16 d n m => vectorFields 0x10 1 false d n m
  | .vqaddS16Scalar d n => scalarFields 0x10 1 false d n
  | .vqaddU16 d n m => vectorFields 0x10 1 true d n m
  | .vqaddU16Scalar d n => scalarFields 0x10 1 true d n
  | .vqaddS32 d n m => vectorFields 0x10 2 false d n m
  | .vqaddS32Scalar d n => scalarFields 0x10 2 false d n
  | .vqaddU32 d n m => vectorFields 0x10 2 true d n m
  | .vqaddU32Scalar d n => scalarFields 0x10 2 true d n
  | .vqsubS8 d n m => vectorFields 0x11 0 false d n m
  | .vqsubS8Scalar d n => scalarFields 0x11 0 false d n
  | .vqsubU8 d n m => vectorFields 0x11 0 true d n m
  | .vqsubU8Scalar d n => scalarFields 0x11 0 true d n
  | .vqsubS16 d n m => vectorFields 0x11 1 false d n m
  | .vqsubS16Scalar d n => scalarFields 0x11 1 false d n
  | .vqsubU16 d n m => vectorFields 0x11 1 true d n m
  | .vqsubU16Scalar d n => scalarFields 0x11 1 true d n
  | .vqsubS32 d n m => vectorFields 0x11 2 false d n m
  | .vqsubS32Scalar d n => scalarFields 0x11 2 false d n
  | .vqsubU32 d n m => vectorFields 0x11 2 true d n m
  | .vqsubU32Scalar d n => scalarFields 0x11 2 true d n
  | .vshlS8 d n m => vectorFields 0x14 0 false d n m
  | .vshlS8Scalar d n => scalarFields 0x14 0 false d n
  | .vshlU8 d n m => vectorFields 0x14 0 true d n m
  | .vshlU8Scalar d n => scalarFields 0x14 0 true d n
  | .vshlS16 d n m => vectorFields 0x14 1 false d n m
  | .vshlS16Scalar d n => scalarFields 0x14 1 false d n
  | .vshlU16 d n m => vectorFields 0x14 1 true d n m
  | .vshlU16Scalar d n => scalarFields 0x14 1 true d n
  | .vshlS32 d n m => vectorFields 0x14 2 false d n m
  | .vshlS32Scalar d n => scalarFields 0x14 2 false d n
  | .vshlU32 d n m => vectorFields 0x14 2 true d n m
  | .vshlU32Scalar d n => scalarFields 0x14 2 true d n
  | .vrshlS8 d n m => vectorFields 0x15 0 false d n m
  | .vrshlS8Scalar d n => scalarFields 0x15 0 false d n
  | .vrshlU8 d n m => vectorFields 0x15 0 true d n m
  | .vrshlU8Scalar d n => scalarFields 0x15 0 true d n
  | .vrshlS16 d n m => vectorFields 0x15 1 false d n m
  | .vrshlS16Scalar d n => scalarFields 0x15 1 false d n
  | .vrshlU16 d n m => vectorFields 0x15 1 true d n m
  | .vrshlU16Scalar d n => scalarFields 0x15 1 true d n
  | .vrshlS32 d n m => vectorFields 0x15 2 false d n m
  | .vrshlS32Scalar d n => scalarFields 0x15 2 false d n
  | .vrshlU32 d n m => vectorFields 0x15 2 true d n m
  | .vrshlU32Scalar d n => scalarFields 0x15 2 true d n
  | .vqshlS8 d n m => vectorFields 0x16 0 false d n m
  | .vqshlS8Scalar d n => scalarFields 0x16 0 false d n
  | .vqshlU8 d n m => vectorFields 0x16 0 true d n m
  | .vqshlU8Scalar d n => scalarFields 0x16 0 true d n
  | .vqshlS16 d n m => vectorFields 0x16 1 false d n m
  | .vqshlS16Scalar d n => scalarFields 0x16 1 false d n
  | .vqshlU16 d n m => vectorFields 0x16 1 true d n m
  | .vqshlU16Scalar d n => scalarFields 0x16 1 true d n
  | .vqshlS32 d n m => vectorFields 0x16 2 false d n m
  | .vqshlS32Scalar d n => scalarFields 0x16 2 false d n
  | .vqshlU32 d n m => vectorFields 0x16 2 true d n m
  | .vqshlU32Scalar d n => scalarFields 0x16 2 true d n
  | .vqrshlS8 d n m => vectorFields 0x17 0 false d n m
  | .vqrshlS8Scalar d n => scalarFields 0x17 0 false d n
  | .vqrshlU8 d n m => vectorFields 0x17 0 true d n m
  | .vqrshlU8Scalar d n => scalarFields 0x17 0 true d n
  | .vqrshlS16 d n m => vectorFields 0x17 1 false d n m
  | .vqrshlS16Scalar d n => scalarFields 0x17 1 false d n
  | .vqrshlU16 d n m => vectorFields 0x17 1 true d n m
  | .vqrshlU16Scalar d n => scalarFields 0x17 1 true d n
  | .vqrshlS32 d n m => vectorFields 0x17 2 false d n m
  | .vqrshlS32Scalar d n => scalarFields 0x17 2 false d n
  | .vqrshlU32 d n m => vectorFields 0x17 2 true d n m
  | .vqrshlU32Scalar d n => scalarFields 0x17 2 true d n
  | .vmullbS8 d n m => vectorFields 0x18 0 false d n m
  | .vmullbU8 d n m => vectorFields 0x18 0 true d n m
  | .vmullbS16 d n m => vectorFields 0x18 1 false d n m
  | .vmullbU16 d n m => vectorFields 0x18 1 true d n m
  | .vmullbS32 d n m => vectorFields 0x18 2 false d n m
  | .vmullbU32 d n m => vectorFields 0x18 2 true d n m
  | .vmulltS8 d n m => vectorFields 0x19 0 false d n m
  | .vmulltU8 d n m => vectorFields 0x19 0 true d n m
  | .vmulltS16 d n m => vectorFields 0x19 1 false d n m
  | .vmulltU16 d n m => vectorFields 0x19 1 true d n m
  | .vmulltS32 d n m => vectorFields 0x19 2 false d n m
  | .vmulltU32 d n m => vectorFields 0x19 2 true d n m
  | .vqdmulhS8 d n m => vectorFields 0x1A 0 false d n m
  | .vqdmulhS8Scalar d n => scalarFields 0x1A 0 false d n
  | .vqdmulhS16 d n m => vectorFields 0x1A 1 false d n m
  | .vqdmulhS16Scalar d n => scalarFields 0x1A 1 false d n
  | .vqdmulhS32 d n m => vectorFields 0x1A 2 false d n m
  | .vqdmulhS32Scalar d n => scalarFields 0x1A 2 false d n
  | .vqrdmulhS8 d n m => vectorFields 0x1B 0 false d n m
  | .vqrdmulhS8Scalar d n => scalarFields 0x1B 0 false d n
  | .vqrdmulhS16 d n m => vectorFields 0x1B 1 false d n m
  | .vqrdmulhS16Scalar d n => scalarFields 0x1B 1 false d n
  | .vqrdmulhS32 d n m => vectorFields 0x1B 2 false d n m
  | .vqrdmulhS32Scalar d n => scalarFields 0x1B 2 false d n
  | .vcaddI8Rot90 d n m => vectorFields 0x1C 0 false d n m
  | .vcaddI16Rot90 d n m => vectorFields 0x1C 1 false d n m
  | .vcaddI32Rot90 d n m => vectorFields 0x1C 2 false d n m
  | .vcaddI8Rot270 d n m => vectorFields 0x1D 0 false d n m
  | .vcaddI16Rot270 d n m => vectorFields 0x1D 1 false d n m
  | .vcaddI32Rot270 d n m => vectorFields 0x1D 2 false d n m
  | .vqdmladhS8 d n m => vectorFields 0x20 0 false d n m
  | .vqdmladhS16 d n m => vectorFields 0x20 1 false d n m
  | .vqdmladhS32 d n m => vectorFields 0x20 2 false d n m
  | .vqdmladhxS8 d n m => vectorFields 0x21 0 false d n m
  | .vqdmladhxS16 d n m => vectorFields 0x21 1 false d n m
  | .vqdmladhxS32 d n m => vectorFields 0x21 2 false d n m
  | .vqrdmladhS8 d n m => vectorFields 0x22 0 false d n m
  | .vqrdmladhS16 d n m => vectorFields 0x22 1 false d n m
  | .vqrdmladhS32 d n m => vectorFields 0x22 2 false d n m
  | .vqrdmladhxS8 d n m => vectorFields 0x23 0 false d n m
  | .vqrdmladhxS16 d n m => vectorFields 0x23 1 false d n m
  | .vqrdmladhxS32 d n m => vectorFields 0x23 2 false d n m
  | .vqdmlsdhS8 d n m => vectorFields 0x24 0 false d n m
  | .vqdmlsdhS16 d n m => vectorFields 0x24 1 false d n m
  | .vqdmlsdhS32 d n m => vectorFields 0x24 2 false d n m
  | .vqdmlsdhxS8 d n m => vectorFields 0x25 0 false d n m
  | .vqdmlsdhxS16 d n m => vectorFields 0x25 1 false d n m
  | .vqdmlsdhxS32 d n m => vectorFields 0x25 2 false d n m
  | .vqrdmlsdhS8 d n m => vectorFields 0x26 0 false d n m
  | .vqrdmlsdhS16 d n m => vectorFields 0x26 1 false d n m
  | .vqrdmlsdhS32 d n m => vectorFields 0x26 2 false d n m
  | .vqrdmlsdhxS8 d n m => vectorFields 0x27 0 false d n m
  | .vqrdmlsdhxS16 d n m => vectorFields 0x27 1 false d n m
  | .vqrdmlsdhxS32 d n m => vectorFields 0x27 2 false d n m
  | .vadcI32 d n m => vectorFields 0x28 2 false d n m
  | .vadciI32 d n m => vectorFields 0x29 2 false d n m
  | .vsbcI32 d n m => vectorFields 0x2A 2 false d n m
  | .vsbciI32 d n m => vectorFields 0x2B 2 false d n m
  | .vmladavS8 n m => vectorFields 0x2C 0 false 0 n m
  | .vmladavU8 n m => vectorFields 0x2C 0 true 0 n m
  | .vmladavS16 n m => vectorFields 0x2C 1 false 0 n m
  | .vmladavU16 n m => vectorFields 0x2C 1 true 0 n m
  | .vmladavS32 n m => vectorFields 0x2C 2 false 0 n m
  | .vmladavU32 n m => vectorFields 0x2C 2 true 0 n m
  | .vmladavxS8 n m => vectorFields 0x2D 0 false 0 n m
  | .vmladavxS16 n m => vectorFields 0x2D 1 false 0 n m
  | .vmladavxS32 n m => vectorFields 0x2D 2 false 0 n m
  | .vmlsdavS8 n m => vectorFields 0x2E 0 false 0 n m
  | .vmlsdavS16 n m => vectorFields 0x2E 1 false 0 n m
  | .vmlsdavS32 n m => vectorFields 0x2E 2 false 0 n m
  | .vmlsdavxS8 n m => vectorFields 0x2F 0 false 0 n m
  | .vmlsdavxS16 n m => vectorFields 0x2F 1 false 0 n m
  | .vmlsdavxS32 n m => vectorFields 0x2F 2 false 0 n m
  | .vrmlaldavhS32 n m => vectorFields 0x30 2 false 0 n m
  | .vrmlaldavhU32 n m => vectorFields 0x30 2 true 0 n m
  | .vrmlaldavhxS32 n m => vectorFields 0x31 2 false 0 n m
  | .vrmlsldavhS32 n m => vectorFields 0x32 2 false 0 n m
  | .vrmlsldavhxS32 n m => vectorFields 0x33 2 false 0 n m
  | .vaddvS8 m => vectorFields 0x34 0 false 0 0 m
  | .vaddvU8 m => vectorFields 0x34 0 true 0 0 m
  | .vaddvS16 m => vectorFields 0x34 1 false 0 0 m
  | .vaddvU16 m => vectorFields 0x34 1 true 0 0 m
  | .vaddvS32 m => vectorFields 0x34 2 false 0 0 m
  | .vaddvU32 m => vectorFields 0x34 2 true 0 0 m
  | .vldrb8 d => memoryFields 0x35 0 false d 0
  | .vldrbS16 d => memoryFields 0x35 1 false d 0
  | .vldrbU16 d => memoryFields 0x35 1 true d 0
  | .vldrh16 d => memoryFields 0x35 1 false d 1
  | .vldrbS32 d => memoryFields 0x35 2 false d 0
  | .vldrbU32 d => memoryFields 0x35 2 true d 0
  | .vldrhS32 d => memoryFields 0x35 2 false d 1
  | .vldrhU32 d => memoryFields 0x35 2 true d 1
  | .vldrw32 d => memoryFields 0x35 2 false d 2
  | .vstrb8 d => memoryFields 0x36 0 false d 0
  | .vstrb16 d => memoryFields 0x36 1 false d 0
  | .vstrh16 d => memoryFields 0x36 1 false d 1
  | .vstrb32 d => memoryFields 0x36 2 false d 0
  | .vstrh32 d => memoryFields 0x36 2 false d 1
  | .vstrw32 d => memoryFields 0x36 2 false d 2
  | .msrVpr => stateFields 0x38 0
  | .mrsVpr => stateFields 0x39 0
  | .msrStatus => stateFields 0x38 1
  | .mrsStatus => stateFields 0x39 1
  | .msrLoopcount => stateFields 0x38 2
  | .mrsLoopcount => stateFields 0x39 2
  | .msrLtpsize => stateFields 0x38 3
  | .mrsLtpsize => stateFields 0x39 3
  | .msrEci => stateFields 0x38 4
  | .mrsEci => stateFields 0x39 4

/-- The descriptor word of an operation (R81). -/
def encode (i : Instr) : Word :=
  i.fields.toWord

end Sys2Proof
end

