-- ==== Sys2Proof/Machine/Flags.lean ====
section
/-! DEFINITION. The fields of VPR and STATUS and what operations do to them (10_state.md R34 to R36, R41 to R44;
40_predication.md R119, R121; 44_pair_carry.md R204). -/

namespace Sys2Proof.Machine

/-! ## VPR -/

/-- P0 = VPR[15:0] (10_state.md R34). -/
def vprP0 (v : Word) : Mask := v.extractLsb' 0 16

/-- MASK01 = VPR[19:16] (10_state.md R34). -/
def vprMask01 (v : Word) : BitVec 4 := v.extractLsb' 16 4

/-- MASK23 = VPR[23:20] (10_state.md R34). -/
def vprMask23 (v : Word) : BitVec 4 := v.extractLsb' 20 4

/-- VPR from its fields, bits [31:24] 0 (10_state.md R34). -/
def vprOf (p0 : Mask) (mask01 mask23 : BitVec 4) : Word := 0#8 ++ mask23 ++ mask01 ++ p0

/-- The P0 bits AdvanceVPR inverts (40_predication.md R121). -/
def inversion (gating : Bool) (e : Mask) (mask01 mask23 : BitVec 4) : Mask :=
  (if gating then e else 0xFFFF#16)
    &&& (if mask01.toNat ≤ 8 then 0xFF00#16 else 0xFFFF#16)
    &&& (if mask23.toNat ≤ 8 then 0x00FF#16 else 0xFFFF#16)

/-- AdvanceVPR(E) (40_predication.md R121, 90_conflicts.md C5). -/
def advanceVpr (gating : Bool) (e : Mask) (v : Word) : Word :=
  if vprMask01 v = 0 ∧ vprMask23 v = 0 then v
  else
    vprOf (vprP0 v ^^^ inversion gating e (vprMask01 v) (vprMask23 v))
      (if !gating || (e &&& 0x00F0#16) != 0 then vprMask01 v <<< 1 else vprMask01 v)
      (vprMask23 v <<< 1)

/-! ## STATUS -/

/-- N = STATUS[31] (10_state.md R41). -/
def statusN (st : Word) : Bool := st.getLsbD 31

/-- Z = STATUS[30] (10_state.md R41). -/
def statusZ (st : Word) : Bool := st.getLsbD 30

/-- C = STATUS[29] (10_state.md R41). -/
def statusC (st : Word) : Bool := st.getLsbD 29

/-- V = STATUS[28] (10_state.md R41). -/
def statusV (st : Word) : Bool := st.getLsbD 28

/-- QC = STATUS[27] (10_state.md R41). -/
def statusQC (st : Word) : Bool := st.getLsbD 27

/-- STATUS from its flags, bits [26:0] 0 (10_state.md R41). -/
def statusOf (n z c v qc : Bool) : Word :=
  BitVec.ofBool n ++ BitVec.ofBool z ++ BitVec.ofBool c ++ BitVec.ofBool v ++ BitVec.ofBool qc ++ 0#27

/-- QC <- QC OR s; QC is never cleared (10_state.md R42, 40_predication.md R119). -/
def latchQC (s : Bool) (st : Word) : Word := if s then st ||| 0x08000000#32 else st

/-- A flag write: C <- c, and N, Z and V <- 0 (44_pair_carry.md R204, 10_state.md R44). -/
def flagWrite (c : Bool) (st : Word) : Word :=
  (st &&& 0x0FFFFFFF#32) ||| (if c then 0x20000000#32 else 0#32)

end Sys2Proof.Machine
end

