-- ==== Sys2Proof/Machine/Lanes.lean ====
section
/-! DEFINITION. Lanes and bytes of a vector register, exact integers and their narrowing (00_scope.md R12 to R14,
10_state.md R46), the Mask Expansion Table and the merge (40_predication.md R116, R117). -/

namespace Sys2Proof.Machine

/-- The lane widths SIZE selects: w = 8, 16 or 32 (30_encoding.md R81, R82). -/
inductive Width where
  | w8
  | w16
  | w32
  deriving DecidableEq, Repr

/-- w in bits. -/
def Width.bits : Width → Nat
  | .w8 => 8
  | .w16 => 16
  | .w32 => 32

/-- Lanes(w) = 128 / w (00_scope.md R14, 30_encoding.md R98). -/
def lanes (w : Nat) : Nat := 128 / w

/-- Elem(v, e, w) = v[w*e + w - 1 : w*e] (00_scope.md R14). -/
def elem (v : QWord) (e w : Nat) : BitVec w := v.extractLsb' (w * e) w

/-- SetElem(v, e, w, x): v with lane e replaced by x (00_scope.md R14). -/
def setElem (v : QWord) (e w : Nat) (x : BitVec w) : QWord :=
  (v &&& ~~~((BitVec.allOnes w).setWidth 128 <<< (w * e))) ||| (x.setWidth 128 <<< (w * e))

/-- Byte(v, b) (00_scope.md R14). -/
def byteAt (v : QWord) (b : Nat) : Byte := elem v b 8

/-- The register whose lanes 0 to n - 1 of width w are f, the rest 0. -/
def firstLanes (w : Nat) (f : Nat → BitVec w) (n : Nat) : QWord :=
  (List.range n).foldl (fun v e => setElem v e w (f e)) 0

/-- The register whose lanes of width w are f. -/
def ofLanes (w : Nat) (f : Nat → BitVec w) : QWord := firstLanes w f (lanes w)

/-- Int(x, U): unsigned when U = 1, two's complement when U = 0 (00_scope.md R12). -/
def intOf (u : Bool) {w : Nat} (x : BitVec w) : Int := if u then x.toNat else x.toInt

/-- trunc_w(v): the w-bit pattern of v mod 2^w (00_scope.md R12). -/
def trunc (w : Nat) (v : Int) : BitVec w := BitVec.ofInt w v

/-- The range Sat clamps to (00_scope.md R13). -/
def satLow (w : Nat) (u : Bool) : Int := if u then 0 else -2 ^ (w - 1)

/-- The range Sat clamps to (00_scope.md R13). -/
def satHigh (w : Nat) (u : Bool) : Int := if u then 2 ^ w - 1 else 2 ^ (w - 1) - 1

/-- Sat(v, w, U): the clamped value, and whether it was clamped (00_scope.md R13). -/
def sat (v : Int) (w : Nat) (u : Bool) : Int × Bool :=
  if v < satLow w u then (satLow w u, true)
  else if satHigh w u < v then (satHigh w u, true)
  else (v, false)

/-- active(e, w) = M[e * w / 8], the mask bit of lane e's lowest byte (00_scope.md R17, 40_predication.md R115). -/
def active (m : Mask) (e w : Nat) : Bool := m.getLsbD (e * w / 8)

/-- A mask with a 1 at the lowest byte of every lane e of width w for which p e holds: how per-lane indicators are
kept beside byte masks (40_predication.md R119). -/
def laneBits (w : Nat) (p : Nat → Bool) : Mask :=
  (List.range (lanes w)).foldl (fun m e => if p e then m ||| (1#16 <<< (e * w / 8)) else m) 0

/-- A mask with 1 bits on every byte of every lane e of width w for which p e holds (44_pair_carry.md R194). -/
def laneBytes (w : Nat) (p : Nat → Bool) : Mask :=
  (List.range (lanes w)).foldl
    (fun m e => if p e then m ||| (BitVec.ofNat 16 (2 ^ (w / 8) - 1) <<< (e * (w / 8))) else m) 0

/-- Expand_k(p): byte i of the result is 0xFF where p[i] = 1 and 0x00 where it is 0 (40_predication.md R116). -/
def expand (k : Nat) (p : BitVec k) : BitVec (8 * k) :=
  (List.range k).foldl (fun v i => if p.getLsbD i then v ||| (0xFF#(8 * k) <<< (8 * i)) else v) 0

/-- Merge(old, new, K): byte b is new's where K[b] = 1 and old's where it is 0 (40_predication.md R117). -/
def merge (old new : QWord) (k : Mask) : QWord :=
  ofLanes 8 fun b => if k.getLsbD b then byteAt new b else byteAt old b

end Sys2Proof.Machine
end

