-- ==== Sys2Proof/Config.lean ====
section
/-! DEFINITION. The implementation parameters that 00_scope.md R10 leaves open. MEM_FAULT, the fifth of them, is
the memory subsystem's and can change between transactions, so it stands in State (log 6). -/

namespace Sys2Proof

/-- MEM_ENDIAN (20_memory.md R64): how the memory primitive lays a value out in bytes. -/
inductive Endian where
  | little
  | big
  deriving DecidableEq, Repr

/-- LOAD_INACTIVE (46_memory_access.md R233, 90_conflicts.md C8): what a load does to an inactive lane. -/
inductive LoadInactive where
  | preserve
  | zero
  deriving DecidableEq, Repr

/-- The parameters a model takes as arguments (00_scope.md R10), fixed for one machine. They stand in State as data
that no step changes, so that a statement about every state covers every setting (log 9). -/
structure Config where
  /-- NQ, the number of vector registers, 1 to 8 (10_state.md R45, 30_encoding.md R84; log 10). -/
  nq : Nat
  /-- MEM_ENDIAN (20_memory.md R64). -/
  endian : Endian
  /-- LOAD_INACTIVE (46_memory_access.md R233). -/
  loadInactive : LoadInactive
  /-- ADVANCE_ECI_GATING (40_predication.md R121, 90_conflicts.md C5). -/
  advanceEciGating : Bool
  deriving DecidableEq, Repr

/-- NQ = 8, LOAD_INACTIVE = PRESERVE and ADVANCE_ECI_GATING = true are R10's defaults. MEM_ENDIAN has none:
LITTLE is a DESIGN CHOICE, unsafe (log 9), the setting of the spec's own examples. -/
def Config.default : Config where
  nq := 8
  endian := .little
  loadInactive := .preserve
  advanceEciGating := true

end Sys2Proof
end

