-- ==== Sys2Proof/Machine/State.lean ====
section
/-! DEFINITION. Everything the spec gives the machine, as plain data: the registers of 10_state.md, the ports of R30,
the memory subsystem as the PSU sees it, the implementation parameters, and the events the outside has yet to deliver. -/

namespace Sys2Proof.Machine

/-- MSIZE, the size of a memory element: 1, 2 or 4 bytes (30_encoding.md R81, 20_memory.md R66). -/
inductive MSize where
  | byte
  | half
  | word
  deriving DecidableEq, Repr

/-- The direction of a memory request, READ by VLDR and WRITE by VSTR (60_exceptions.md R254). -/
inductive Dir where
  | read
  | write
  deriving DecidableEq, Repr

/-- What OUTCOME = MEMORY_FAULT records (60_exceptions.md R254). -/
structure MemFaultInfo where
  /-- The address of the element request that faulted. -/
  addr : Word
  size : MSize
  dir : Dir
  /-- The index k of the element. -/
  element : Nat
  faultPc : Word
  /-- What the primitive's fault carries, passed through uninterpreted (log 7). -/
  cause : Nat
  deriving DecidableEq, Repr

/-- OUTCOME, one per transaction (60_exceptions.md R255). Every one of them is a next state of the model (log 2). -/
inductive TxOutcome where
  /-- Code 0: completed. -/
  | done
  /-- Code 1: aborted by a memory fault. -/
  | memoryFault (info : MemFaultInfo)
  /-- Code 2: fatal internal consistency violation. -/
  | icv
  /-- Code 3: the descriptor was refused. -/
  | illegal
  deriving DecidableEq, Repr

/-- One request on the MEM port; FAULT_PC goes with each (10_state.md R30, 46_memory_access.md R230). -/
inductive MemRequest where
  | read (addr : Word) (size : MSize) (faultPc : Word)
  | write (addr : Word) (size : MSize) (value : Nat) (faultPc : Word)
  deriving DecidableEq, Repr

/-- The transaction inputs of 10_state.md R30. -/
structure Transaction where
  desc : Word
  scalar : Word
  accIn : DWord
  addr : Word
  faultPc : Word
  deriving DecidableEq, Repr

/-- One request that the memory subsystem answers with a fault, and the cause it carries. -/
structure FaultEntry where
  addr : Word
  size : MSize
  dir : Dir
  cause : Nat
  deriving DecidableEq, Repr

/-- The values a reset draws (10_state.md R51, 70_reset_and_hazards.md R270). -/
structure ResetDraw where
  q : Vector QWord 8
  loopcount : Word
  n : Bool
  z : Bool
  c : Bool
  v : Bool
  qc : Bool
  deriving DecidableEq, Repr

/-- What the outside can do to the PSU, each between transactions (log 1). -/
inductive Input where
  /-- The dispatch layer presents a transaction (10_state.md R30, R31). -/
  | transaction (t : Transaction)
  /-- Core reset, with the values it draws (70_reset_and_hazards.md R270). -/
  | reset (draw : ResetDraw)
  /-- Direct write of a vector register (70_reset_and_hazards.md R276). -/
  | writeQ (r : QReg) (v : QWord)
  /-- Another agent stores a byte (20_memory.md R71; log 11). -/
  | writeMem (addr : Word) (b : Byte)
  /-- The memory subsystem changes which requests fault (20_memory.md R61; log 6). -/
  | setFaults (faults : List FaultEntry)
  deriving DecidableEq, Repr

/-- The machine. -/
structure State where
  /-- Q0 to Q7 (10_state.md R45). -/
  q : Vector QWord 8
  /-- VPR: P0 [15:0], MASK01 [19:16], MASK23 [23:20] (10_state.md R34). -/
  vpr : Word
  /-- LOOPCOUNT (10_state.md R37). -/
  loopcount : Word
  /-- LTPSIZE (10_state.md R38). -/
  ltpsize : BitVec 3
  /-- ECI (10_state.md R39). -/
  eci : BitVec 3
  /-- STATUS: N 31, Z 30, C 29, V 28, QC 27 (10_state.md R41). -/
  status : Word
  /-- HALTED (10_state.md R49). -/
  halted : Bool
  /-- The input ports DESC, SCALAR, ACC_IN, ADDR, FAULT_PC of the transaction last presented (10_state.md R30). -/
  ports : Transaction
  /-- RES, or no value (60_exceptions.md R255). -/
  res : Option DWord
  /-- OUTCOME of the transaction last presented; none before the first. -/
  outcome : Option TxOutcome
  /-- The MEM requests of the transaction last presented, oldest first (20_memory.md R67, R69). -/
  requests : List MemRequest
  /-- The data memory: the bytes that differ from what an unlisted address reads as, addresses rising (log 5). -/
  mem : List Host.Cell
  /-- The oracle MEM_FAULT: the requests that fault (20_memory.md R61; log 6). -/
  memFaults : List FaultEntry
  /-- The implementation parameters; no step changes them (00_scope.md R10; log 9). -/
  cfg : Config
  /-- The MODEL's own field: the events the outside has yet to deliver, oldest first (log 1). -/
  inputs : List Input
  deriving DecidableEq, Repr

/-- Why the machine has no step. -/
inductive Fault where
  /-- Raised by a transaction presented while HALTED = 1: "the PSU takes no further transaction (no step)"
  (10_state.md R49). Safe: the spec gives no step here, and only reset leads on. -/
  | halted
  deriving DecidableEq, Repr

/-- Why the model gives no meaning. -/
inductive Refusal where
  /-- Raised by an arm of exec whose instruction has no meaning yet. Safe. No arm does. -/
  | notModelled (mnemonic : String)
  deriving DecidableEq, Repr

/-- What one step answers. -/
abbrev Result := Host.Outcome State Fault Refusal

/-- Right after reset (10_state.md R51): VPR = 0, LTPSIZE = 4, ECI = NONE and HALTED = 0 are the spec's. Q0 to Q7,
LOOPCOUNT and the flags are free draws there; this one state draws 0 for each, a DESIGN CHOICE, unsafe (log 3).
`Input.reset` resets with any draw. -/
def State.reset : State where
  q := Vector.replicate 8 0
  vpr := 0
  loopcount := 0
  ltpsize := 4
  eci := 0
  status := 0
  halted := false
  ports := { desc := 0, scalar := 0, accIn := 0, addr := 0, faultPc := 0 }
  res := none
  outcome := none
  requests := []
  mem := []
  memFaults := []
  cfg := Config.default
  inputs := []

end Sys2Proof.Machine
end

