-- ==== Sys2Proof/Machine/Memory.lean ====
section
/-! DEFINITION. The data memory and the memory primitive's view of it (20_memory.md R60, R61, R64). -/

namespace Sys2Proof.Machine

/-- What a byte that is not listed reads as. The spec gives memory no initial contents (20_memory.md R62):
0 is a DESIGN CHOICE, unsafe (log 5). -/
def unlistedByte : Byte := 0

/-- The byte at an address. -/
def readByte : List Host.Cell → Nat → Byte
  | [], _ => unlistedByte
  | (k, b) :: cells, a => if k = a then b else readByte cells a

/-- Stores a byte, keeping the canonical form: addresses rising, no byte listed that an unlisted one reads as. -/
def writeByte : List Host.Cell → Nat → Byte → List Host.Cell
  | [], a, b => if b = unlistedByte then [] else [(a, b)]
  | (k, c) :: cells, a, b =>
    if a < k then (if b = unlistedByte then (k, c) :: cells else (a, b) :: (k, c) :: cells)
    else if a = k then (if b = unlistedByte then cells else (a, b) :: cells)
    else (k, c) :: writeByte cells a b

/-- The canonical form from an address on: addresses at least `lo`, strictly rising, below 2^32, and no byte equal to
the unlisted one. -/
def memWfFrom : Nat → List Host.Cell → Bool
  | _, [] => true
  | lo, (k, b) :: cells => decide (lo ≤ k) && decide (k < 2 ^ 32) && decide (b ≠ unlistedByte) && memWfFrom (k + 1) cells

/-- The canonical form of the memory. -/
def memWf (mem : List Host.Cell) : Bool := memWfFrom 0 mem

/-- MSIZE in bytes (30_encoding.md R81). -/
def MSize.bytes : MSize → Nat
  | .byte => 1
  | .half => 2
  | .word => 4

/-- The address i bytes on, mod 2^32 (00_scope.md R15; that this holds inside one request too is DEDUCED, log 8). -/
def addrPlus (a : Word) (i : Nat) : Word := a + BitVec.ofNat 32 i

/-- The sum of byte i times 2^(8i), byte 0 first. -/
def valueOfBytes : List Byte → Nat
  | [] => 0
  | b :: bs => b.toNat + 256 * valueOfBytes bs

/-- The low n bytes of v, least significant first. -/
def bytesOfValue : Nat → Nat → List Byte
  | 0, _ => []
  | n + 1, v => BitVec.ofNat 8 v :: bytesOfValue n (v / 256)

/-- Memory order of a value's bytes, least significant first under LITTLE (20_memory.md R64). -/
def inMemoryOrder (endian : Endian) (bs : List Byte) : List Byte :=
  match endian with
  | .little => bs
  | .big => bs.reverse

/-- The n-byte value at an address (20_memory.md R64). -/
def readValue (endian : Endian) (mem : List Host.Cell) (a : Word) (n : Nat) : Nat :=
  valueOfBytes (inMemoryOrder endian ((List.range n).map fun i => readByte mem (addrPlus a i).toNat))

/-- Stores bytes at consecutive addresses. -/
def writeBytes : List Host.Cell → Word → List Byte → List Host.Cell
  | mem, _, [] => mem
  | mem, a, b :: bs => writeBytes (writeByte mem a.toNat b) (addrPlus a 1) bs

/-- Stores the low 8n bits of a value at an address (20_memory.md R61, R64). -/
def writeValue (endian : Endian) (mem : List Host.Cell) (a : Word) (n v : Nat) : List Host.Cell :=
  writeBytes mem a (inMemoryOrder endian (bytesOfValue n v))

/-- The oracle MEM_FAULT: the cause with which a request faults, or none (20_memory.md R61, 92_eei_decisions.md D27). -/
def faultCause (faults : List FaultEntry) (addr : Word) (size : MSize) (dir : Dir) : Option Nat :=
  (faults.find? fun f => f.addr == addr && f.size == size && f.dir == dir).map FaultEntry.cause

end Sys2Proof.Machine
end

