-- ==== Sys2Proof/Machine/Ops.lean ====
section
/-! DEFINITION. The named operations every instruction is made of: the Resolver, the commit of a result, the Advancer,
how a transaction ends (completion, memory fault, InternalConsistencyViolation, refusal), the one execution sequence of
40_predication.md R123, and access to the special registers (47_state_access.md). -/

namespace Sys2Proof.Machine

/-! ## Updates of the state -/

/-- Q[d] <- v (00_scope.md R14). -/
def State.setQ (s : State) (d : QReg) (v : QWord) : State := { s with q := s.q.set d v }

/-- STATUS <- st. -/
def State.setStatus (s : State) (st : Word) : State := { s with status := st }

/-- The data memory after a store. -/
def State.setMem (s : State) (mem : List Host.Cell) : State := { s with mem := mem }

/-- A request goes out on MEM (10_state.md R30). -/
def State.issue (s : State) (r : MemRequest) : State := { s with requests := s.requests ++ [r] }

/-- A transaction is presented: its inputs stand on the ports, and no request of it has been issued (10_state.md R30). -/
def State.present (s : State) (t : Transaction) : State := { s with ports := t, requests := [] }

/-- The transaction ends with an OUTCOME, and RES carries a value or none (10_state.md R30, 60_exceptions.md R255). -/
def State.finish (s : State) (o : TxOutcome) (res : Option DWord) : State := { s with outcome := some o, res := res }

/-- The code OUTCOME carries (60_exceptions.md R255). -/
def TxOutcome.code : TxOutcome → Nat
  | .done => 0
  | .memoryFault _ => 1
  | .icv => 2
  | .illegal => 3

/-- OUTCOME as the dispatch layer reads it: the code of the transaction last presented, none before the first
(60_exceptions.md R255). -/
def State.outcomeCode (s : State) : Option Nat := s.outcome.map TxOutcome.code

/-- HALTED <- 1 (60_exceptions.md R252). -/
def State.halt (s : State) : State := { s with halted := true }

/-- The Advancer: the Beat/ECI transition A0A1A2B0 -> A0, every other value -> NONE (40_predication.md R120,
90_conflicts.md C9), then AdvanceVPR with the execute mask E of the operation's start (R121). -/
def State.advance (s : State) (e : Mask) : State :=
  { s with
    eci := if s.eci = 5#3 then 1#3 else 0#3
    vpr := advanceVpr s.cfg.advanceEciGating e s.vpr }

/-- Core reset with the values it draws (70_reset_and_hazards.md R270, 10_state.md R51). Memory, its fault oracle, the
parameters and the pending events are not the PSU's and stay; no transaction stands on the outputs any more (log 4). -/
def State.coreReset (s : State) (draw : ResetDraw) : State :=
  { s with
    q := draw.q
    vpr := 0
    loopcount := draw.loopcount
    ltpsize := 4
    eci := 0
    status := statusOf draw.n draw.z draw.c draw.v draw.qc
    halted := false
    res := none
    outcome := none
    requests := [] }

/-! ## The Predicate State Resolver -/

/-- EciExecMask(ECI); none for the reserved values 3, 6 and 7 (40_predication.md R113). -/
def eciExecMask (eci : BitVec 3) : Option Mask :=
  match eci with
  | 0#3 => some 0xFFFF#16
  | 1#3 => some 0xFFF0#16
  | 2#3 => some 0xFF00#16
  | 4#3 => some 0xF000#16
  | 5#3 => some 0xF000#16
  | _ => none

/-- Step 1 of the Resolver: P0, with a half whose mask field is 0 forced fully active (40_predication.md R110, R111). -/
def predicateMask (vpr : Word) : Mask :=
  vprP0 vpr ||| (if vprMask01 vpr = 0 then 0x00FF#16 else 0#16) ||| (if vprMask23 vpr = 0 then 0xFF00#16 else 0#16)

/-- Step 2 of the Resolver, tail predication: the bits below masklen = LOOPCOUNT << LTPSIZE where LTPSIZE < 4 and
LOOPCOUNT <= 16 >> LTPSIZE, else every bit (40_predication.md R110, R112). -/
def tailMask (loopcount : Word) (ltpsize : BitVec 3) : Mask :=
  if ltpsize.toNat < 4 ∧ loopcount.toNat ≤ 16 >>> ltpsize.toNat then
    BitVec.ofNat 16 ((1 <<< (loopcount.toNat <<< ltpsize.toNat)) - 1)
  else 0xFFFF#16

/-- Resolve(), with E the ECI execute mask (40_predication.md R110). It reads VPR, LOOPCOUNT, LTPSIZE and ECI only
(R114). -/
def State.resolve (s : State) (e : Mask) : Mask :=
  predicateMask s.vpr &&& tailMask s.loopcount s.ltpsize &&& e

/-! ## The execution sequence -/

/-- What step 4 of R123, together with the commit of steps 5 and 6, leaves: the operation completed, with RES or none,
or a memory request raised MemoryFault, with the elements before it committed (46_memory_access.md R231, R232). -/
inductive Body where
  | completed (s : State) (res : Option DWord)
  | aborted (s : State) (info : MemFaultInfo)

/-- InternalConsistencyViolation: nothing changes but HALTED <- 1, and OUTCOME = ICV (60_exceptions.md R252). -/
def raiseIcv (s : State) : Result := .next (s.halt.finish .icv none)

/-- A memory fault ends the operation: the Advancer does not run, RES carries no value, and OUTCOME =
MEMORY_FAULT(info) (46_memory_access.md R231, R232; 60_exceptions.md R254). -/
def raiseMemoryFault (s : State) (info : MemFaultInfo) : Result := .next (s.finish (.memoryFault info) none)

/-- A refused descriptor: no state changes, OUTCOME = ILLEGAL (60_exceptions.md R253). -/
def refuseDescriptor (s : State) : Result := .next (s.finish .illegal none)

/-- Steps 7 and 8 of R123: the Advancer with the operation's execute mask E, then OUTCOME = DONE and RES
(40_predication.md R120 to R122). -/
def complete (s : State) (e : Mask) (res : Option DWord) : Result := .next ((s.advance e).finish .done res)

/-- Execute, steps 2 to 8 of 40_predication.md R123, shared by every vector operation: a reserved ECI raises ICV
before any effect (10_state.md R40); otherwise E and M are computed once, from the state before the operation (R114),
and the family's body runs with M and E. Steps 0 and 1 (HALTED, Legal(DESC)) come before an operation is chosen:
`runTransaction`. -/
def execute (s : State) (body : (m e : Mask) → Body) : Result :=
  match eciExecMask s.eci with
  | none => raiseIcv s
  | some e =>
    match body (s.resolve e) e with
    | .completed t res => complete t e res
    | .aborted t info => raiseMemoryFault t info

/-- What a family's step 4 gives when it produces a result vector: R, the write-select mask WSEL (40_predication.md
R125), the saturation indicators at the lowest byte of their lanes (R119), and the carry of a flag write
(44_pair_carry.md R204). -/
structure Effects where
  r : QWord
  wsel : Mask := 0xFFFF
  sat : Mask := 0
  carry : Option Bool := none

/-- STATUS after step 6 of R123: the QC latch gated by W = M AND WSEL, then the flag write if there is one
(40_predication.md R119, 44_pair_carry.md R204). -/
def statusAfter (m : Mask) (x : Effects) (st : Word) : Word :=
  let latched := latchQC ((x.sat &&& (m &&& x.wsel)) != 0) st
  match x.carry with
  | none => latched
  | some c => flagWrite c latched

/-- Steps 5 and 6 of R123: Q[QD] <- Merge(Q[QD], R, W) with W = M AND WSEL, then STATUS. -/
def State.commit (s : State) (d : QReg) (m : Mask) (x : Effects) : State :=
  (s.setQ d (merge s.q[d] x.r (m &&& x.wsel))).setStatus (statusAfter m x s.status)

/-- A vector operation that produces a result vector for Q[d]. Every source is read from the state before the
operation (40_predication.md R124). -/
def vectorOp (d : QReg) (effects : Mask → Effects) (s : State) : Result :=
  execute s fun m _ => .completed (s.commit d m (effects m)) none

/-- A reduction: it writes no register and no flag, and RES is the exact value mod 2^64 (45_reduction.md R210). -/
def reduceOp (value : Mask → Int) (s : State) : Result :=
  execute s fun m _ => .completed s (some (trunc 64 (value m)))

/-! ## The special registers -/

/-- SYSREG, the state selector (30_encoding.md R97). -/
inductive Sysreg where
  | vpr
  | status
  | loopcount
  | ltpsize
  | eci
  deriving DecidableEq, Repr

/-- The value MRS reads: bits a register does not implement read 0 (47_state_access.md R240, R242 to R250). -/
def State.readSysreg (s : State) : Sysreg → Word
  | .vpr => s.vpr &&& 0x00FFFFFF#32
  | .status => s.status &&& 0xF8000000#32
  | .loopcount => s.loopcount
  | .ltpsize => s.ltpsize.setWidth 32
  | .eci => s.eci.setWidth 32

/-- MSR's write: bits a register does not implement are ignored (47_state_access.md R240, R241 to R249). -/
def State.writeSysreg (s : State) (r : Sysreg) (x : Word) : State :=
  match r with
  | .vpr => { s with vpr := x &&& 0x00FFFFFF#32 }
  | .status => { s with status := x &&& 0xF8000000#32 }
  | .loopcount => { s with loopcount := x }
  | .ltpsize => { s with ltpsize := x.extractLsb' 0 3 }
  | .eci => { s with eci := x.extractLsb' 0 3 }

/-- MSR: the register takes SCALAR. No Resolver, no ECI check, no Advancer (47_state_access.md R240). -/
def writeState (r : Sysreg) (s : State) : Result :=
  .next ((s.writeSysreg r s.ports.scalar).finish .done none)

/-- MRS: RES is the register, zero-extended to 64 bits (47_state_access.md R240). -/
def readState (r : Sysreg) (s : State) : Result :=
  .next (s.finish .done (some ((s.readSysreg r).setWidth 64)))

end Sys2Proof.Machine
end

