-- ==== Sys2Proof/Machine/Operands.lean ====
section
/-! DEFINITION. The operand forms (30_encoding.md R92, R93; 00_scope.md R18) and the lane-by-lane shape of a vector
operation. -/

namespace Sys2Proof.Machine

/-- The second operand: a vector register (S = 0) or the SCALAR port in every lane (S = 1) (30_encoding.md R85, R93). -/
inductive Operand2 where
  | vector (m : QReg)
  | scalar
  deriving DecidableEq, Repr

/-- nv[e] = Elem(Q[n], e, w), read before the operation (00_scope.md R18). -/
def State.lane (s : State) (n : QReg) (e w : Nat) : BitVec w := elem s.q[n] e w

/-- mv[e]: Elem(Q[m], e, w), or SCALAR[w-1:0] in every lane (00_scope.md R18, 30_encoding.md R93). -/
def State.lane2 (s : State) (src : Operand2) (e w : Nat) : BitVec w :=
  match src with
  | .vector m => elem s.q[m] e w
  | .scalar => s.ports.scalar.setWidth w

/-- The shift amount SInt(mv[e][7:0]): the low byte of the second operand, signed (30_encoding.md R93). -/
def State.shiftAmount (s : State) (src : Operand2) (e w : Nat) : Int :=
  ((s.lane2 src e w).setWidth 8).toInt

/-- The result vector of lane values (value, saturated) at width w: each lane is trunc_w of its value, and every lane
is produced (00_scope.md R12, 40_predication.md R119). -/
def laneEffects (w : Nat) (f : Nat → Int × Bool) : Effects where
  r := ofLanes w fun e => trunc w (f e).1
  sat := laneBits w fun e => (f e).2

/-- As `laneEffects`, but only the lanes for which `made` holds are produced: WSEL selects their bytes
(40_predication.md R125, 44_pair_carry.md R194). -/
def someLaneEffects (w : Nat) (made : Nat → Bool) (f : Nat → Int × Bool) : Effects where
  r := ofLanes w fun e => trunc w (f e).1
  wsel := laneBytes w made
  sat := laneBits w fun e => made e && (f e).2

/-- A lane-local operation on two operands of signedness U (42_arith.md R150). -/
def laneOp (f : Nat → Bool → Int → Int → Int × Bool) (w : Width) (u : Bool) (d n : QReg) (src : Operand2) (s : State) :
    Result :=
  vectorOp d (fun _ => laneEffects w.bits fun e =>
    f w.bits u (intOf u (s.lane n e w.bits)) (intOf u (s.lane2 src e w.bits))) s

end Sys2Proof.Machine
end

