-- ==== Sys2Proof/Machine/Arith.lean ====
section
/-! DEFINITION. Lane arithmetic (spec/42_arith.md, R150 to R160). A lane function takes the width, the signedness and
the two exact operands and gives the exact lane value and its saturation indicator; truncation and merge are
`laneOp`'s. -/

namespace Sys2Proof.Machine

/-- VADD: a + b (R151). -/
def addLane (_w : Nat) (_u : Bool) (a b : Int) : Int × Bool := (a + b, false)

/-- VSUB: a - b (R152). -/
def subLane (_w : Nat) (_u : Bool) (a b : Int) : Int × Bool := (a - b, false)

/-- VMUL: a * b, of which the lane keeps the low half (R153). -/
def mulLane (_w : Nat) (_u : Bool) (a b : Int) : Int × Bool := (a * b, false)

/-- VMAX: a if a >= b, else b (R154). -/
def maxLane (_w : Nat) (_u : Bool) (a b : Int) : Int × Bool := (if a ≥ b then a else b, false)

/-- VMIN: b if a >= b, else a (R155). -/
def minLane (_w : Nat) (_u : Bool) (a b : Int) : Int × Bool := (if a ≥ b then b else a, false)

/-- VABD: the distance of a and b (R156). -/
def absDiffLane (_w : Nat) (_u : Bool) (a b : Int) : Int × Bool := (if a ≥ b then a - b else b - a, false)

/-- VHADD: floor((a + b) / 2) (R157). -/
def halvingAddLane (_w : Nat) (_u : Bool) (a b : Int) : Int × Bool := ((a + b) >>> (1 : Nat), false)

/-- VHSUB: floor((a - b) / 2) (R158). -/
def halvingSubLane (_w : Nat) (_u : Bool) (a b : Int) : Int × Bool := ((a - b) >>> (1 : Nat), false)

/-- VQADD: Sat(a + b, w, U) (R159). -/
def satAddLane (w : Nat) (u : Bool) (a b : Int) : Int × Bool := sat (a + b) w u

/-- VQSUB: Sat(a - b, w, U) (R160). -/
def satSubLane (w : Nat) (u : Bool) (a b : Int) : Int × Bool := sat (a - b) w u

/-- `VADD.I8 Qd, Qn, Qm` (R151). -/
def execVaddI8 (d n m : QReg) (s : State) : Result := laneOp addLane .w8 false d n (.vector m) s

/-- `VADD.I8 Qd, Qn, Rs` (R151). -/
def execVaddI8Scalar (d n : QReg) (s : State) : Result := laneOp addLane .w8 false d n .scalar s

/-- `VADD.I16 Qd, Qn, Qm` (R151). -/
def execVaddI16 (d n m : QReg) (s : State) : Result := laneOp addLane .w16 false d n (.vector m) s

/-- `VADD.I16 Qd, Qn, Rs` (R151). -/
def execVaddI16Scalar (d n : QReg) (s : State) : Result := laneOp addLane .w16 false d n .scalar s

/-- `VADD.I32 Qd, Qn, Qm` (R151). -/
def execVaddI32 (d n m : QReg) (s : State) : Result := laneOp addLane .w32 false d n (.vector m) s

/-- `VADD.I32 Qd, Qn, Rs` (R151). -/
def execVaddI32Scalar (d n : QReg) (s : State) : Result := laneOp addLane .w32 false d n .scalar s

/-- `VSUB.I8 Qd, Qn, Qm` (R152). -/
def execVsubI8 (d n m : QReg) (s : State) : Result := laneOp subLane .w8 false d n (.vector m) s

/-- `VSUB.I8 Qd, Qn, Rs` (R152). -/
def execVsubI8Scalar (d n : QReg) (s : State) : Result := laneOp subLane .w8 false d n .scalar s

/-- `VSUB.I16 Qd, Qn, Qm` (R152). -/
def execVsubI16 (d n m : QReg) (s : State) : Result := laneOp subLane .w16 false d n (.vector m) s

/-- `VSUB.I16 Qd, Qn, Rs` (R152). -/
def execVsubI16Scalar (d n : QReg) (s : State) : Result := laneOp subLane .w16 false d n .scalar s

/-- `VSUB.I32 Qd, Qn, Qm` (R152). -/
def execVsubI32 (d n m : QReg) (s : State) : Result := laneOp subLane .w32 false d n (.vector m) s

/-- `VSUB.I32 Qd, Qn, Rs` (R152). -/
def execVsubI32Scalar (d n : QReg) (s : State) : Result := laneOp subLane .w32 false d n .scalar s

/-- `VMUL.I8 Qd, Qn, Qm` (R153). -/
def execVmulI8 (d n m : QReg) (s : State) : Result := laneOp mulLane .w8 false d n (.vector m) s

/-- `VMUL.I8 Qd, Qn, Rs` (R153). -/
def execVmulI8Scalar (d n : QReg) (s : State) : Result := laneOp mulLane .w8 false d n .scalar s

/-- `VMUL.I16 Qd, Qn, Qm` (R153). -/
def execVmulI16 (d n m : QReg) (s : State) : Result := laneOp mulLane .w16 false d n (.vector m) s

/-- `VMUL.I16 Qd, Qn, Rs` (R153). -/
def execVmulI16Scalar (d n : QReg) (s : State) : Result := laneOp mulLane .w16 false d n .scalar s

/-- `VMUL.I32 Qd, Qn, Qm` (R153). -/
def execVmulI32 (d n m : QReg) (s : State) : Result := laneOp mulLane .w32 false d n (.vector m) s

/-- `VMUL.I32 Qd, Qn, Rs` (R153). -/
def execVmulI32Scalar (d n : QReg) (s : State) : Result := laneOp mulLane .w32 false d n .scalar s

/-- `VMAX.S8 Qd, Qn, Qm` (R154). -/
def execVmaxS8 (d n m : QReg) (s : State) : Result := laneOp maxLane .w8 false d n (.vector m) s

/-- `VMAX.U8 Qd, Qn, Qm` (R154). -/
def execVmaxU8 (d n m : QReg) (s : State) : Result := laneOp maxLane .w8 true d n (.vector m) s

/-- `VMAX.S16 Qd, Qn, Qm` (R154). -/
def execVmaxS16 (d n m : QReg) (s : State) : Result := laneOp maxLane .w16 false d n (.vector m) s

/-- `VMAX.U16 Qd, Qn, Qm` (R154). -/
def execVmaxU16 (d n m : QReg) (s : State) : Result := laneOp maxLane .w16 true d n (.vector m) s

/-- `VMAX.S32 Qd, Qn, Qm` (R154). -/
def execVmaxS32 (d n m : QReg) (s : State) : Result := laneOp maxLane .w32 false d n (.vector m) s

/-- `VMAX.U32 Qd, Qn, Qm` (R154). -/
def execVmaxU32 (d n m : QReg) (s : State) : Result := laneOp maxLane .w32 true d n (.vector m) s

/-- `VMIN.S8 Qd, Qn, Qm` (R155). -/
def execVminS8 (d n m : QReg) (s : State) : Result := laneOp minLane .w8 false d n (.vector m) s

/-- `VMIN.U8 Qd, Qn, Qm` (R155). -/
def execVminU8 (d n m : QReg) (s : State) : Result := laneOp minLane .w8 true d n (.vector m) s

/-- `VMIN.S16 Qd, Qn, Qm` (R155). -/
def execVminS16 (d n m : QReg) (s : State) : Result := laneOp minLane .w16 false d n (.vector m) s

/-- `VMIN.U16 Qd, Qn, Qm` (R155). -/
def execVminU16 (d n m : QReg) (s : State) : Result := laneOp minLane .w16 true d n (.vector m) s

/-- `VMIN.S32 Qd, Qn, Qm` (R155). -/
def execVminS32 (d n m : QReg) (s : State) : Result := laneOp minLane .w32 false d n (.vector m) s

/-- `VMIN.U32 Qd, Qn, Qm` (R155). -/
def execVminU32 (d n m : QReg) (s : State) : Result := laneOp minLane .w32 true d n (.vector m) s

/-- `VABD.S8 Qd, Qn, Qm` (R156). -/
def execVabdS8 (d n m : QReg) (s : State) : Result := laneOp absDiffLane .w8 false d n (.vector m) s

/-- `VABD.U8 Qd, Qn, Qm` (R156). -/
def execVabdU8 (d n m : QReg) (s : State) : Result := laneOp absDiffLane .w8 true d n (.vector m) s

/-- `VABD.S16 Qd, Qn, Qm` (R156). -/
def execVabdS16 (d n m : QReg) (s : State) : Result := laneOp absDiffLane .w16 false d n (.vector m) s

/-- `VABD.U16 Qd, Qn, Qm` (R156). -/
def execVabdU16 (d n m : QReg) (s : State) : Result := laneOp absDiffLane .w16 true d n (.vector m) s

/-- `VABD.S32 Qd, Qn, Qm` (R156). -/
def execVabdS32 (d n m : QReg) (s : State) : Result := laneOp absDiffLane .w32 false d n (.vector m) s

/-- `VABD.U32 Qd, Qn, Qm` (R156). -/
def execVabdU32 (d n m : QReg) (s : State) : Result := laneOp absDiffLane .w32 true d n (.vector m) s

/-- `VHADD.S8 Qd, Qn, Qm` (R157). -/
def execVhaddS8 (d n m : QReg) (s : State) : Result := laneOp halvingAddLane .w8 false d n (.vector m) s

/-- `VHADD.S8 Qd, Qn, Rs` (R157). -/
def execVhaddS8Scalar (d n : QReg) (s : State) : Result := laneOp halvingAddLane .w8 false d n .scalar s

/-- `VHADD.U8 Qd, Qn, Qm` (R157). -/
def execVhaddU8 (d n m : QReg) (s : State) : Result := laneOp halvingAddLane .w8 true d n (.vector m) s

/-- `VHADD.U8 Qd, Qn, Rs` (R157). -/
def execVhaddU8Scalar (d n : QReg) (s : State) : Result := laneOp halvingAddLane .w8 true d n .scalar s

/-- `VHADD.S16 Qd, Qn, Qm` (R157). -/
def execVhaddS16 (d n m : QReg) (s : State) : Result := laneOp halvingAddLane .w16 false d n (.vector m) s

/-- `VHADD.S16 Qd, Qn, Rs` (R157). -/
def execVhaddS16Scalar (d n : QReg) (s : State) : Result := laneOp halvingAddLane .w16 false d n .scalar s

/-- `VHADD.U16 Qd, Qn, Qm` (R157). -/
def execVhaddU16 (d n m : QReg) (s : State) : Result := laneOp halvingAddLane .w16 true d n (.vector m) s

/-- `VHADD.U16 Qd, Qn, Rs` (R157). -/
def execVhaddU16Scalar (d n : QReg) (s : State) : Result := laneOp halvingAddLane .w16 true d n .scalar s

/-- `VHADD.S32 Qd, Qn, Qm` (R157). -/
def execVhaddS32 (d n m : QReg) (s : State) : Result := laneOp halvingAddLane .w32 false d n (.vector m) s

/-- `VHADD.S32 Qd, Qn, Rs` (R157). -/
def execVhaddS32Scalar (d n : QReg) (s : State) : Result := laneOp halvingAddLane .w32 false d n .scalar s

/-- `VHADD.U32 Qd, Qn, Qm` (R157). -/
def execVhaddU32 (d n m : QReg) (s : State) : Result := laneOp halvingAddLane .w32 true d n (.vector m) s

/-- `VHADD.U32 Qd, Qn, Rs` (R157). -/
def execVhaddU32Scalar (d n : QReg) (s : State) : Result := laneOp halvingAddLane .w32 true d n .scalar s

/-- `VHSUB.S8 Qd, Qn, Qm` (R158). -/
def execVhsubS8 (d n m : QReg) (s : State) : Result := laneOp halvingSubLane .w8 false d n (.vector m) s

/-- `VHSUB.S8 Qd, Qn, Rs` (R158). -/
def execVhsubS8Scalar (d n : QReg) (s : State) : Result := laneOp halvingSubLane .w8 false d n .scalar s

/-- `VHSUB.U8 Qd, Qn, Qm` (R158). -/
def execVhsubU8 (d n m : QReg) (s : State) : Result := laneOp halvingSubLane .w8 true d n (.vector m) s

/-- `VHSUB.U8 Qd, Qn, Rs` (R158). -/
def execVhsubU8Scalar (d n : QReg) (s : State) : Result := laneOp halvingSubLane .w8 true d n .scalar s

/-- `VHSUB.S16 Qd, Qn, Qm` (R158). -/
def execVhsubS16 (d n m : QReg) (s : State) : Result := laneOp halvingSubLane .w16 false d n (.vector m) s

/-- `VHSUB.S16 Qd, Qn, Rs` (R158). -/
def execVhsubS16Scalar (d n : QReg) (s : State) : Result := laneOp halvingSubLane .w16 false d n .scalar s

/-- `VHSUB.U16 Qd, Qn, Qm` (R158). -/
def execVhsubU16 (d n m : QReg) (s : State) : Result := laneOp halvingSubLane .w16 true d n (.vector m) s

/-- `VHSUB.U16 Qd, Qn, Rs` (R158). -/
def execVhsubU16Scalar (d n : QReg) (s : State) : Result := laneOp halvingSubLane .w16 true d n .scalar s

/-- `VHSUB.S32 Qd, Qn, Qm` (R158). -/
def execVhsubS32 (d n m : QReg) (s : State) : Result := laneOp halvingSubLane .w32 false d n (.vector m) s

/-- `VHSUB.S32 Qd, Qn, Rs` (R158). -/
def execVhsubS32Scalar (d n : QReg) (s : State) : Result := laneOp halvingSubLane .w32 false d n .scalar s

/-- `VHSUB.U32 Qd, Qn, Qm` (R158). -/
def execVhsubU32 (d n m : QReg) (s : State) : Result := laneOp halvingSubLane .w32 true d n (.vector m) s

/-- `VHSUB.U32 Qd, Qn, Rs` (R158). -/
def execVhsubU32Scalar (d n : QReg) (s : State) : Result := laneOp halvingSubLane .w32 true d n .scalar s

/-- `VQADD.S8 Qd, Qn, Qm` (R159). -/
def execVqaddS8 (d n m : QReg) (s : State) : Result := laneOp satAddLane .w8 false d n (.vector m) s

/-- `VQADD.S8 Qd, Qn, Rs` (R159). -/
def execVqaddS8Scalar (d n : QReg) (s : State) : Result := laneOp satAddLane .w8 false d n .scalar s

/-- `VQADD.U8 Qd, Qn, Qm` (R159). -/
def execVqaddU8 (d n m : QReg) (s : State) : Result := laneOp satAddLane .w8 true d n (.vector m) s

/-- `VQADD.U8 Qd, Qn, Rs` (R159). -/
def execVqaddU8Scalar (d n : QReg) (s : State) : Result := laneOp satAddLane .w8 true d n .scalar s

/-- `VQADD.S16 Qd, Qn, Qm` (R159). -/
def execVqaddS16 (d n m : QReg) (s : State) : Result := laneOp satAddLane .w16 false d n (.vector m) s

/-- `VQADD.S16 Qd, Qn, Rs` (R159). -/
def execVqaddS16Scalar (d n : QReg) (s : State) : Result := laneOp satAddLane .w16 false d n .scalar s

/-- `VQADD.U16 Qd, Qn, Qm` (R159). -/
def execVqaddU16 (d n m : QReg) (s : State) : Result := laneOp satAddLane .w16 true d n (.vector m) s

/-- `VQADD.U16 Qd, Qn, Rs` (R159). -/
def execVqaddU16Scalar (d n : QReg) (s : State) : Result := laneOp satAddLane .w16 true d n .scalar s

/-- `VQADD.S32 Qd, Qn, Qm` (R159). -/
def execVqaddS32 (d n m : QReg) (s : State) : Result := laneOp satAddLane .w32 false d n (.vector m) s

/-- `VQADD.S32 Qd, Qn, Rs` (R159). -/
def execVqaddS32Scalar (d n : QReg) (s : State) : Result := laneOp satAddLane .w32 false d n .scalar s

/-- `VQADD.U32 Qd, Qn, Qm` (R159). -/
def execVqaddU32 (d n m : QReg) (s : State) : Result := laneOp satAddLane .w32 true d n (.vector m) s

/-- `VQADD.U32 Qd, Qn, Rs` (R159). -/
def execVqaddU32Scalar (d n : QReg) (s : State) : Result := laneOp satAddLane .w32 true d n .scalar s

/-- `VQSUB.S8 Qd, Qn, Qm` (R160). -/
def execVqsubS8 (d n m : QReg) (s : State) : Result := laneOp satSubLane .w8 false d n (.vector m) s

/-- `VQSUB.S8 Qd, Qn, Rs` (R160). -/
def execVqsubS8Scalar (d n : QReg) (s : State) : Result := laneOp satSubLane .w8 false d n .scalar s

/-- `VQSUB.U8 Qd, Qn, Qm` (R160). -/
def execVqsubU8 (d n m : QReg) (s : State) : Result := laneOp satSubLane .w8 true d n (.vector m) s

/-- `VQSUB.U8 Qd, Qn, Rs` (R160). -/
def execVqsubU8Scalar (d n : QReg) (s : State) : Result := laneOp satSubLane .w8 true d n .scalar s

/-- `VQSUB.S16 Qd, Qn, Qm` (R160). -/
def execVqsubS16 (d n m : QReg) (s : State) : Result := laneOp satSubLane .w16 false d n (.vector m) s

/-- `VQSUB.S16 Qd, Qn, Rs` (R160). -/
def execVqsubS16Scalar (d n : QReg) (s : State) : Result := laneOp satSubLane .w16 false d n .scalar s

/-- `VQSUB.U16 Qd, Qn, Qm` (R160). -/
def execVqsubU16 (d n m : QReg) (s : State) : Result := laneOp satSubLane .w16 true d n (.vector m) s

/-- `VQSUB.U16 Qd, Qn, Rs` (R160). -/
def execVqsubU16Scalar (d n : QReg) (s : State) : Result := laneOp satSubLane .w16 true d n .scalar s

/-- `VQSUB.S32 Qd, Qn, Qm` (R160). -/
def execVqsubS32 (d n m : QReg) (s : State) : Result := laneOp satSubLane .w32 false d n (.vector m) s

/-- `VQSUB.S32 Qd, Qn, Rs` (R160). -/
def execVqsubS32Scalar (d n : QReg) (s : State) : Result := laneOp satSubLane .w32 false d n .scalar s

/-- `VQSUB.U32 Qd, Qn, Qm` (R160). -/
def execVqsubU32 (d n m : QReg) (s : State) : Result := laneOp satSubLane .w32 true d n (.vector m) s

/-- `VQSUB.U32 Qd, Qn, Rs` (R160). -/
def execVqsubU32Scalar (d n : QReg) (s : State) : Result := laneOp satSubLane .w32 true d n .scalar s

end Sys2Proof.Machine
end

