-- ==== Sys2Proof/Machine/Bitwise.lean ====
section
/-! DEFINITION. Bitwise operations (spec/41_bitwise.md, R140 to R145). -/

namespace Sys2Proof.Machine

/-- A bitwise operation: R = f(Q[n], Q[m]) on whole registers, merged byte by byte; no flag (R140). -/
def bitwiseOp (f : QWord → QWord → QWord) (d n m : QReg) (s : State) : Result :=
  vectorOp d (fun _ => { r := f s.q[n] s.q[m] }) s

/-- `VAND Qd, Qn, Qm` (R141). -/
def execVand (d n m : QReg) (s : State) : Result := bitwiseOp (fun x y => x &&& y) d n m s

/-- `VBIC Qd, Qn, Qm` (R142). -/
def execVbic (d n m : QReg) (s : State) : Result := bitwiseOp (fun x y => x &&& ~~~y) d n m s

/-- `VORR Qd, Qn, Qm` (R143). -/
def execVorr (d n m : QReg) (s : State) : Result := bitwiseOp (fun x y => x ||| y) d n m s

/-- `VORN Qd, Qn, Qm` (R144). -/
def execVorn (d n m : QReg) (s : State) : Result := bitwiseOp (fun x y => x ||| ~~~y) d n m s

/-- `VEOR Qd, Qn, Qm` (R145). -/
def execVeor (d n m : QReg) (s : State) : Result := bitwiseOp (fun x y => x ^^^ y) d n m s

end Sys2Proof.Machine
end

