-- ==== Sys2Proof/Machine/MemoryAccess.lean ====
section
/-! DEFINITION. Vector load and store (spec/46_memory_access.md, R230 to R237). -/

namespace Sys2Proof.Machine

/-- EA(e) = (ADDR + e * msize) mod 2^32 (R230). -/
def State.elementAddress (s : State) (ms : MSize) (e : Nat) : Word := addrPlus s.ports.addr (e * ms.bytes)

/-- What OUTCOME records when element e's request faults (60_exceptions.md R254). -/
def State.faultInfo (s : State) (ms : MSize) (dir : Dir) (e cause : Nat) : MemFaultInfo where
  addr := s.elementAddress ms e
  size := ms
  dir := dir
  element := e
  faultPc := s.ports.faultPc
  cause := cause

/-- The cause with which element e's request faults, or none (20_memory.md R61). -/
def State.elementFault (s : State) (ms : MSize) (dir : Dir) (e : Nat) : Option Nat :=
  faultCause s.memFaults (s.elementAddress ms e) ms dir

/-- The value memory holds for element e (20_memory.md R64). -/
def State.elementValue (s : State) (ms : MSize) (e : Nat) : Nat :=
  readValue s.cfg.endian s.mem (s.elementAddress ms e) ms.bytes

/-- A loaded element, zero- or sign-extended from 8*msize to w bits (R230, R233). -/
def extendElement (u : Bool) (ms : MSize) (w v : Nat) : BitVec w :=
  if u then BitVec.ofNat w v else (BitVec.ofNat (8 * ms.bytes) v).signExtend w

/-- The register after element e was loaded: merged under M (PRESERVE), or the whole lane (ZERO) (R233). -/
def loadedLane (inactive : LoadInactive) (mask : Mask) (old : QWord) (e w : Nat) (x : BitVec w) : QWord :=
  match inactive with
  | .preserve => merge old (setElem old e w x) mask
  | .zero => setElem old e w x

/-- The register after an inactive lane of an executed beat: kept (PRESERVE) or 0 (ZERO) (R233). -/
def skippedLane (inactive : LoadInactive) (old : QWord) (e w : Nat) : QWord :=
  match inactive with
  | .preserve => old
  | .zero => setElem old e w 0

/-- The elements of a VLDR, in ascending order, each request complete before the next. An element of a beat that ECI
skips is neither requested nor written; a fault stops the operation with the earlier elements committed (R231 to R233,
R236). -/
def loadElements (w : Width) (ms : MSize) (u : Bool) (d : QReg) (mask exec : Mask) : List Nat → State → Body
  | [], s => .completed s none
  | e :: es, s =>
    if active exec e w.bits then
      if active mask e w.bits then
        let t := s.issue (.read (s.elementAddress ms e) ms s.ports.faultPc)
        match s.elementFault ms .read e with
        | some cause => .aborted t (s.faultInfo ms .read e cause)
        | none =>
          loadElements w ms u d mask exec es
            (t.setQ d (loadedLane s.cfg.loadInactive mask s.q[d] e w.bits
              (extendElement u ms w.bits (s.elementValue ms e))))
      else loadElements w ms u d mask exec es (s.setQ d (skippedLane s.cfg.loadInactive s.q[d] e w.bits))
    else loadElements w ms u d mask exec es s

/-- VLDR (R233). -/
def loadOp (w : Width) (ms : MSize) (u : Bool) (d : QReg) (s : State) : Result :=
  execute s fun mask exec => loadElements w ms u d mask exec (List.range (lanes w.bits)) s

/-- The value a VSTR stores for element e: the low 8*msize bits of the lane (R234). -/
def State.storedValue (s : State) (w : Width) (ms : MSize) (d : QReg) (e : Nat) : Nat :=
  (s.lane d e w.bits).toNat % 2 ^ (8 * ms.bytes)

/-- The elements of a VSTR, in ascending order: an active lane stores its whole truncated element, an inactive one
nothing; a fault stops the operation with the earlier elements stored (R231, R232, R234). -/
def storeElements (w : Width) (ms : MSize) (d : QReg) (mask : Mask) : List Nat → State → Body
  | [], s => .completed s none
  | e :: es, s =>
    if active mask e w.bits then
      let t := s.issue (.write (s.elementAddress ms e) ms (s.storedValue w ms d e) s.ports.faultPc)
      match s.elementFault ms .write e with
      | some cause => .aborted t (s.faultInfo ms .write e cause)
      | none =>
        storeElements w ms d mask es
          (t.setMem (writeValue s.cfg.endian s.mem (s.elementAddress ms e) ms.bytes (s.storedValue w ms d e)))
    else storeElements w ms d mask es s

/-- VSTR (R234). -/
def storeOp (w : Width) (ms : MSize) (d : QReg) (s : State) : Result :=
  execute s fun mask _ => storeElements w ms d mask (List.range (lanes w.bits)) s

/-- `VLDRB.8 Qd, [ADDR]` (R233). -/
def execVldrb8 (d : QReg) (s : State) : Result := loadOp .w8 .byte false d s

/-- `VLDRB.S16 Qd, [ADDR]` (R233). -/
def execVldrbS16 (d : QReg) (s : State) : Result := loadOp .w16 .byte false d s

/-- `VLDRB.U16 Qd, [ADDR]` (R233). -/
def execVldrbU16 (d : QReg) (s : State) : Result := loadOp .w16 .byte true d s

/-- `VLDRH.16 Qd, [ADDR]` (R233). -/
def execVldrh16 (d : QReg) (s : State) : Result := loadOp .w16 .half false d s

/-- `VLDRB.S32 Qd, [ADDR]` (R233). -/
def execVldrbS32 (d : QReg) (s : State) : Result := loadOp .w32 .byte false d s

/-- `VLDRB.U32 Qd, [ADDR]` (R233). -/
def execVldrbU32 (d : QReg) (s : State) : Result := loadOp .w32 .byte true d s

/-- `VLDRH.S32 Qd, [ADDR]` (R233). -/
def execVldrhS32 (d : QReg) (s : State) : Result := loadOp .w32 .half false d s

/-- `VLDRH.U32 Qd, [ADDR]` (R233). -/
def execVldrhU32 (d : QReg) (s : State) : Result := loadOp .w32 .half true d s

/-- `VLDRW.32 Qd, [ADDR]` (R233). -/
def execVldrw32 (d : QReg) (s : State) : Result := loadOp .w32 .word false d s

/-- `VSTRB.8 Qd, [ADDR]` (R234). -/
def execVstrb8 (d : QReg) (s : State) : Result := storeOp .w8 .byte d s

/-- `VSTRB.16 Qd, [ADDR]` (R234). -/
def execVstrb16 (d : QReg) (s : State) : Result := storeOp .w16 .byte d s

/-- `VSTRH.16 Qd, [ADDR]` (R234). -/
def execVstrh16 (d : QReg) (s : State) : Result := storeOp .w16 .half d s

/-- `VSTRB.32 Qd, [ADDR]` (R234). -/
def execVstrb32 (d : QReg) (s : State) : Result := storeOp .w32 .byte d s

/-- `VSTRH.32 Qd, [ADDR]` (R234). -/
def execVstrh32 (d : QReg) (s : State) : Result := storeOp .w32 .half d s

/-- `VSTRW.32 Qd, [ADDR]` (R234). -/
def execVstrw32 (d : QReg) (s : State) : Result := storeOp .w32 .word d s

end Sys2Proof.Machine
end

