-- ==== Sys2Proof/Machine/PairCarry.lean ====
section
/-! DEFINITION. Lane-pair and carry-chained operations (spec/44_pair_carry.md, R190 to R208). -/

namespace Sys2Proof.Machine

/-- The lane values of a complex rotate-add: f0(n[2i], m[2i+1]) in even lanes and f1(n[2i+1], m[2i]) in odd ones,
(f0, f1) = (subtract, add) for 90 degrees and (add, subtract) for 270 (R191, R192). -/
def rotateAddLane (by90 : Bool) (a b : Nat → Int) (e : Nat) : Int × Bool :=
  if e % 2 = 0 then (if by90 then a e - b (e + 1) else a e + b (e + 1), false)
  else (if by90 then a e + b (e - 1) else a e - b (e - 1), false)

/-- VCADD: every lane from the old operands, wrapping, no flag (R190). -/
def rotateAddOp (by90 : Bool) (w : Width) (d n m : QReg) (s : State) : Result :=
  vectorOp d (fun _ => laneEffects w.bits
    (rotateAddLane by90 (fun e => (s.lane n e w.bits).toInt) fun e => (s.lane m e w.bits).toInt)) s

/-- DualHigh(a, b, c, d, w, sub, round) (R193, 90_conflicts.md C6). -/
def dualHigh (a b c d : Int) (w : Nat) (sub round : Bool) : Int × Bool :=
  let p := if sub then a * b - c * d else a * b + c * d
  sat ((2 * p + if round then 2 ^ (w - 1) else 0) >>> w) w false

/-- The lane values of the dual-high family: without exchange, even lane e from n[e], m[e], n[e+1], m[e+1]; with
exchange, odd lane e from n[e], m[e-1], n[e-1], m[e] (R194). -/
def dualHighLane (exchange sub round : Bool) (w : Nat) (a b : Nat → Int) (e : Nat) : Int × Bool :=
  if exchange then dualHigh (a e) (b (e - 1)) (a (e - 1)) (b e) w sub round
  else dualHigh (a e) (b e) (a (e + 1)) (b (e + 1)) w sub round

/-- The dual-high family: only the even lanes are produced without exchange, only the odd lanes with it (R194). -/
def dualHighOp (exchange sub round : Bool) (w : Width) (d n m : QReg) (s : State) : Result :=
  vectorOp d (fun _ => someLaneEffects w.bits (fun e => e % 2 == (if exchange then 1 else 0))
    (dualHighLane exchange sub round w.bits (fun e => (s.lane n e w.bits).toInt)
      fun e => (s.lane m e w.bits).toInt)) s

/-- CarryChain over the given lanes, from a carry-in and the result so far: every lane's sum is computed, and its carry
is captured only where the lane is active (R203, 90_conflicts.md C3). -/
def carryLanes (mask : Mask) (a b : QWord) (inv : Word) : List Nat → Bool → QWord → QWord × Bool
  | [], cin, r => (r, cin)
  | e :: es, cin, r =>
    let t := cin.toNat + (elem a e 32).toNat + (elem b e 32 ^^^ inv).toNat
    carryLanes mask a b inv es (if active mask e 32 then t >>> 32 != 0 else cin) (setElem r e 32 (BitVec.ofNat 32 t))

/-- CarryChain(cin0, inv) (R203). -/
def carryChain (mask : Mask) (a b : QWord) (inv : Word) (cin : Bool) : QWord × Bool :=
  carryLanes mask a b inv [0, 1, 2, 3] cin 0

/-- Add or subtract with carry; the flags are written always, or when M AND 0x1111 is not 0 (R204 to R208). -/
def carryOp (cin : Bool) (inv : Word) (always : Bool) (d n m : QReg) (s : State) : Result :=
  vectorOp d (fun mask =>
    let chain := carryChain mask s.q[n] s.q[m] inv cin
    { r := chain.1, carry := if always || (mask &&& 0x1111#16) != 0 then some chain.2 else none }) s

/-- `VCADD.I8 Qd, Qn, Qm, #90` (R191). -/
def execVcaddI8Rot90 (d n m : QReg) (s : State) : Result := rotateAddOp true .w8 d n m s

/-- `VCADD.I16 Qd, Qn, Qm, #90` (R191). -/
def execVcaddI16Rot90 (d n m : QReg) (s : State) : Result := rotateAddOp true .w16 d n m s

/-- `VCADD.I32 Qd, Qn, Qm, #90` (R191). -/
def execVcaddI32Rot90 (d n m : QReg) (s : State) : Result := rotateAddOp true .w32 d n m s

/-- `VCADD.I8 Qd, Qn, Qm, #270` (R192). -/
def execVcaddI8Rot270 (d n m : QReg) (s : State) : Result := rotateAddOp false .w8 d n m s

/-- `VCADD.I16 Qd, Qn, Qm, #270` (R192). -/
def execVcaddI16Rot270 (d n m : QReg) (s : State) : Result := rotateAddOp false .w16 d n m s

/-- `VCADD.I32 Qd, Qn, Qm, #270` (R192). -/
def execVcaddI32Rot270 (d n m : QReg) (s : State) : Result := rotateAddOp false .w32 d n m s

/-- `VQDMLADH.S8 Qd, Qn, Qm` (R195). -/
def execVqdmladhS8 (d n m : QReg) (s : State) : Result := dualHighOp false false false .w8 d n m s

/-- `VQDMLADH.S16 Qd, Qn, Qm` (R195). -/
def execVqdmladhS16 (d n m : QReg) (s : State) : Result := dualHighOp false false false .w16 d n m s

/-- `VQDMLADH.S32 Qd, Qn, Qm` (R195). -/
def execVqdmladhS32 (d n m : QReg) (s : State) : Result := dualHighOp false false false .w32 d n m s

/-- `VQDMLADHX.S8 Qd, Qn, Qm` (R196). -/
def execVqdmladhxS8 (d n m : QReg) (s : State) : Result := dualHighOp true false false .w8 d n m s

/-- `VQDMLADHX.S16 Qd, Qn, Qm` (R196). -/
def execVqdmladhxS16 (d n m : QReg) (s : State) : Result := dualHighOp true false false .w16 d n m s

/-- `VQDMLADHX.S32 Qd, Qn, Qm` (R196). -/
def execVqdmladhxS32 (d n m : QReg) (s : State) : Result := dualHighOp true false false .w32 d n m s

/-- `VQRDMLADH.S8 Qd, Qn, Qm` (R197). -/
def execVqrdmladhS8 (d n m : QReg) (s : State) : Result := dualHighOp false false true .w8 d n m s

/-- `VQRDMLADH.S16 Qd, Qn, Qm` (R197). -/
def execVqrdmladhS16 (d n m : QReg) (s : State) : Result := dualHighOp false false true .w16 d n m s

/-- `VQRDMLADH.S32 Qd, Qn, Qm` (R197). -/
def execVqrdmladhS32 (d n m : QReg) (s : State) : Result := dualHighOp false false true .w32 d n m s

/-- `VQRDMLADHX.S8 Qd, Qn, Qm` (R198). -/
def execVqrdmladhxS8 (d n m : QReg) (s : State) : Result := dualHighOp true false true .w8 d n m s

/-- `VQRDMLADHX.S16 Qd, Qn, Qm` (R198). -/
def execVqrdmladhxS16 (d n m : QReg) (s : State) : Result := dualHighOp true false true .w16 d n m s

/-- `VQRDMLADHX.S32 Qd, Qn, Qm` (R198). -/
def execVqrdmladhxS32 (d n m : QReg) (s : State) : Result := dualHighOp true false true .w32 d n m s

/-- `VQDMLSDH.S8 Qd, Qn, Qm` (R199). -/
def execVqdmlsdhS8 (d n m : QReg) (s : State) : Result := dualHighOp false true false .w8 d n m s

/-- `VQDMLSDH.S16 Qd, Qn, Qm` (R199). -/
def execVqdmlsdhS16 (d n m : QReg) (s : State) : Result := dualHighOp false true false .w16 d n m s

/-- `VQDMLSDH.S32 Qd, Qn, Qm` (R199). -/
def execVqdmlsdhS32 (d n m : QReg) (s : State) : Result := dualHighOp false true false .w32 d n m s

/-- `VQDMLSDHX.S8 Qd, Qn, Qm` (R200). -/
def execVqdmlsdhxS8 (d n m : QReg) (s : State) : Result := dualHighOp true true false .w8 d n m s

/-- `VQDMLSDHX.S16 Qd, Qn, Qm` (R200). -/
def execVqdmlsdhxS16 (d n m : QReg) (s : State) : Result := dualHighOp true true false .w16 d n m s

/-- `VQDMLSDHX.S32 Qd, Qn, Qm` (R200). -/
def execVqdmlsdhxS32 (d n m : QReg) (s : State) : Result := dualHighOp true true false .w32 d n m s

/-- `VQRDMLSDH.S8 Qd, Qn, Qm` (R201). -/
def execVqrdmlsdhS8 (d n m : QReg) (s : State) : Result := dualHighOp false true true .w8 d n m s

/-- `VQRDMLSDH.S16 Qd, Qn, Qm` (R201). -/
def execVqrdmlsdhS16 (d n m : QReg) (s : State) : Result := dualHighOp false true true .w16 d n m s

/-- `VQRDMLSDH.S32 Qd, Qn, Qm` (R201). -/
def execVqrdmlsdhS32 (d n m : QReg) (s : State) : Result := dualHighOp false true true .w32 d n m s

/-- `VQRDMLSDHX.S8 Qd, Qn, Qm` (R202). -/
def execVqrdmlsdhxS8 (d n m : QReg) (s : State) : Result := dualHighOp true true true .w8 d n m s

/-- `VQRDMLSDHX.S16 Qd, Qn, Qm` (R202). -/
def execVqrdmlsdhxS16 (d n m : QReg) (s : State) : Result := dualHighOp true true true .w16 d n m s

/-- `VQRDMLSDHX.S32 Qd, Qn, Qm` (R202). -/
def execVqrdmlsdhxS32 (d n m : QReg) (s : State) : Result := dualHighOp true true true .w32 d n m s

/-- `VADC.I32 Qd, Qn, Qm` (R205). -/
def execVadcI32 (d n m : QReg) (s : State) : Result := carryOp (statusC s.status) 0#32 false d n m s

/-- `VADCI.I32 Qd, Qn, Qm` (R206). -/
def execVadciI32 (d n m : QReg) (s : State) : Result := carryOp false 0#32 true d n m s

/-- `VSBC.I32 Qd, Qn, Qm` (R207). -/
def execVsbcI32 (d n m : QReg) (s : State) : Result := carryOp (statusC s.status) 0xFFFFFFFF#32 false d n m s

/-- `VSBCI.I32 Qd, Qn, Qm` (R208). -/
def execVsbciI32 (d n m : QReg) (s : State) : Result := carryOp true 0xFFFFFFFF#32 true d n m s

end Sys2Proof.Machine
end

