-- ==== Sys2Proof/Machine/Reduction.lean ====
section
/-! DEFINITION. Cross-lane reductions (spec/45_reduction.md, R210 to R222). -/

namespace Sys2Proof.Machine

/-- Folds the active lanes of width w into an exact value, lane 0 first; an inactive lane contributes nothing (R210). -/
def foldActive (mask : Mask) (w : Nat) (step : Int → Nat → Int) (acc : Int) : Int :=
  (List.range (lanes w)).foldl (fun a e => if active mask e w then step a e else a) acc

/-- The product n[e XOR X] * m[e] of a dual accumulate (R211, R216). -/
def dualProduct (x : Nat) (u : Bool) (w : Nat) (a b : QWord) (e : Nat) : Int :=
  intOf u (elem a (e ^^^ x) w) * intOf u (elem b e w)

/-- Adds lane e's product, or subtracts it in the odd lanes of a subtract form (R211). -/
def dualStep (x : Nat) (sub u : Bool) (w : Nat) (a b : QWord) (acc : Int) (e : Nat) : Int :=
  if sub && e % 2 == 1 then acc - dualProduct x u w a b e else acc + dualProduct x u w a b e

/-- DualAcc(acc0, X, sub, U) before its truncation to 64 bits (R211). -/
def dualAcc (mask : Mask) (x : Nat) (sub u : Bool) (w : Nat) (a b : QWord) (acc : DWord) : Int :=
  foldActive mask w (dualStep x sub u w a b) acc.toNat

/-- VMLADAV, VMLADAVX, VMLSDAV, VMLSDAVX (R212 to R215). -/
def dualAccOp (x : Nat) (sub : Bool) (w : Width) (u : Bool) (n m : QReg) (s : State) : Result :=
  reduceOp (fun mask => dualAcc mask x sub u w.bits s.q[n] s.q[m] s.ports.accIn) s

/-- RoundDualAcc(acc0, X, sub, U) before its truncation to 64 bits: the seed shifted left 8, each active lane's product
and a bias of 2^7, and the sum shifted right 8 (R216). -/
def roundDualAcc (mask : Mask) (x : Nat) (sub u : Bool) (a b : QWord) (acc : DWord) : Int :=
  foldActive mask 32 (fun ext e => dualStep x sub u 32 a b ext e + 2 ^ 7) (acc.toNat * 2 ^ 8) >>> (8 : Nat)

/-- VRMLALDAVH, VRMLALDAVHX, VRMLSLDAVH, VRMLSLDAVHX (R217 to R220). -/
def roundDualAccOp (x : Nat) (sub u : Bool) (n m : QReg) (s : State) : Result :=
  reduceOp (fun mask => roundDualAcc mask x sub u s.q[n] s.q[m] s.ports.accIn) s

/-- The sum of the active lanes and the seed, before its truncation to 64 bits (R221). -/
def laneSum (mask : Mask) (u : Bool) (w : Nat) (b : QWord) (acc : DWord) : Int :=
  foldActive mask w (fun a e => a + intOf u (elem b e w)) acc.toNat

/-- VADDV (R221). -/
def sumOp (w : Width) (u : Bool) (m : QReg) (s : State) : Result :=
  reduceOp (fun mask => laneSum mask u w.bits s.q[m] s.ports.accIn) s

/-- `VMLADAV.S8 Qn, Qm` (R212). -/
def execVmladavS8 (n m : QReg) (s : State) : Result := dualAccOp 0 false .w8 false n m s

/-- `VMLADAV.U8 Qn, Qm` (R212). -/
def execVmladavU8 (n m : QReg) (s : State) : Result := dualAccOp 0 false .w8 true n m s

/-- `VMLADAV.S16 Qn, Qm` (R212). -/
def execVmladavS16 (n m : QReg) (s : State) : Result := dualAccOp 0 false .w16 false n m s

/-- `VMLADAV.U16 Qn, Qm` (R212). -/
def execVmladavU16 (n m : QReg) (s : State) : Result := dualAccOp 0 false .w16 true n m s

/-- `VMLADAV.S32 Qn, Qm` (R212). -/
def execVmladavS32 (n m : QReg) (s : State) : Result := dualAccOp 0 false .w32 false n m s

/-- `VMLADAV.U32 Qn, Qm` (R212). -/
def execVmladavU32 (n m : QReg) (s : State) : Result := dualAccOp 0 false .w32 true n m s

/-- `VMLADAVX.S8 Qn, Qm` (R213). -/
def execVmladavxS8 (n m : QReg) (s : State) : Result := dualAccOp 1 false .w8 false n m s

/-- `VMLADAVX.S16 Qn, Qm` (R213). -/
def execVmladavxS16 (n m : QReg) (s : State) : Result := dualAccOp 1 false .w16 false n m s

/-- `VMLADAVX.S32 Qn, Qm` (R213). -/
def execVmladavxS32 (n m : QReg) (s : State) : Result := dualAccOp 1 false .w32 false n m s

/-- `VMLSDAV.S8 Qn, Qm` (R214). -/
def execVmlsdavS8 (n m : QReg) (s : State) : Result := dualAccOp 0 true .w8 false n m s

/-- `VMLSDAV.S16 Qn, Qm` (R214). -/
def execVmlsdavS16 (n m : QReg) (s : State) : Result := dualAccOp 0 true .w16 false n m s

/-- `VMLSDAV.S32 Qn, Qm` (R214). -/
def execVmlsdavS32 (n m : QReg) (s : State) : Result := dualAccOp 0 true .w32 false n m s

/-- `VMLSDAVX.S8 Qn, Qm` (R215). -/
def execVmlsdavxS8 (n m : QReg) (s : State) : Result := dualAccOp 1 true .w8 false n m s

/-- `VMLSDAVX.S16 Qn, Qm` (R215). -/
def execVmlsdavxS16 (n m : QReg) (s : State) : Result := dualAccOp 1 true .w16 false n m s

/-- `VMLSDAVX.S32 Qn, Qm` (R215). -/
def execVmlsdavxS32 (n m : QReg) (s : State) : Result := dualAccOp 1 true .w32 false n m s

/-- `VRMLALDAVH.S32 Qn, Qm` (R217). -/
def execVrmlaldavhS32 (n m : QReg) (s : State) : Result := roundDualAccOp 0 false false n m s

/-- `VRMLALDAVH.U32 Qn, Qm` (R217). -/
def execVrmlaldavhU32 (n m : QReg) (s : State) : Result := roundDualAccOp 0 false true n m s

/-- `VRMLALDAVHX.S32 Qn, Qm` (R218). -/
def execVrmlaldavhxS32 (n m : QReg) (s : State) : Result := roundDualAccOp 1 false false n m s

/-- `VRMLSLDAVH.S32 Qn, Qm` (R219). -/
def execVrmlsldavhS32 (n m : QReg) (s : State) : Result := roundDualAccOp 0 true false n m s

/-- `VRMLSLDAVHX.S32 Qn, Qm` (R220). -/
def execVrmlsldavhxS32 (n m : QReg) (s : State) : Result := roundDualAccOp 1 true false n m s

/-- `VADDV.S8 Qm` (R221). -/
def execVaddvS8 (m : QReg) (s : State) : Result := sumOp .w8 false m s

/-- `VADDV.U8 Qm` (R221). -/
def execVaddvU8 (m : QReg) (s : State) : Result := sumOp .w8 true m s

/-- `VADDV.S16 Qm` (R221). -/
def execVaddvS16 (m : QReg) (s : State) : Result := sumOp .w16 false m s

/-- `VADDV.U16 Qm` (R221). -/
def execVaddvU16 (m : QReg) (s : State) : Result := sumOp .w16 true m s

/-- `VADDV.S32 Qm` (R221). -/
def execVaddvS32 (m : QReg) (s : State) : Result := sumOp .w32 false m s

/-- `VADDV.U32 Qm` (R221). -/
def execVaddvU32 (m : QReg) (s : State) : Result := sumOp .w32 true m s

end Sys2Proof.Machine
end

