-- ==== Sys2Proof/Machine/ShiftMul.lean ====
section
/-! DEFINITION. Shifts by register, widening multiply, doubling multiply high (spec/43_shift_mul.md, R170 to R180). -/

namespace Sys2Proof.Machine

/-- Shift(x, sh, w, U, round, sat), with x the exact lane value and sh the signed amount (R170). A right shift by
k = -sh is a floor, with 2^(k-1) added first when rounding, and never saturates. A left shift is exact; where it does
not fit it clamps and indicates saturation in the saturating forms and wraps (by the lane's truncation) in the others. -/
def shift (x sh : Int) (w : Nat) (u round saturate : Bool) : Int × Bool :=
  if sh < 0 then
    let k := (-sh).toNat
    ((if round then x + 2 ^ (k - 1) else x) >>> k, false)
  else
    let v := x * 2 ^ sh.toNat
    if (sat v w u).2 && saturate then sat v w u else (v, false)

/-- A shift operation: every lane of Q[n] shifted by the amount in the second operand's lane (R171 to R174). -/
def shiftOp (round saturate : Bool) (w : Width) (u : Bool) (d n : QReg) (src : Operand2) (s : State) : Result :=
  vectorOp d (fun _ => laneEffects w.bits fun e =>
    shift (intOf u (s.lane n e w.bits)) (s.shiftAmount src e w.bits) w.bits u round saturate) s

/-- VMULLB (T = 0) and VMULLT (T = 1): output lane le, 2w wide, is the exact product of input lanes 2le + T (R175). -/
def widenMulOp (t : Nat) (w : Width) (u : Bool) (d n m : QReg) (s : State) : Result :=
  vectorOp d (fun _ => laneEffects (2 * w.bits) fun le =>
    (intOf u (s.lane n (2 * le + t) w.bits) * intOf u (s.lane m (2 * le + t) w.bits), false)) s

/-- DMulH(a, b, w, round) (R178). -/
def doublingMulHighLane (round : Bool) (w : Nat) (_u : Bool) (a b : Int) : Int × Bool :=
  sat ((2 * a * b + if round then 2 ^ (w - 1) else 0) >>> w) w false

/-- `VSHL.S8 Qd, Qn, Qm` (R171). -/
def execVshlS8 (d n m : QReg) (s : State) : Result := shiftOp false false .w8 false d n (.vector m) s

/-- `VSHL.S8 Qd, Qn, Rs` (R171). -/
def execVshlS8Scalar (d n : QReg) (s : State) : Result := shiftOp false false .w8 false d n .scalar s

/-- `VSHL.U8 Qd, Qn, Qm` (R171). -/
def execVshlU8 (d n m : QReg) (s : State) : Result := shiftOp false false .w8 true d n (.vector m) s

/-- `VSHL.U8 Qd, Qn, Rs` (R171). -/
def execVshlU8Scalar (d n : QReg) (s : State) : Result := shiftOp false false .w8 true d n .scalar s

/-- `VSHL.S16 Qd, Qn, Qm` (R171). -/
def execVshlS16 (d n m : QReg) (s : State) : Result := shiftOp false false .w16 false d n (.vector m) s

/-- `VSHL.S16 Qd, Qn, Rs` (R171). -/
def execVshlS16Scalar (d n : QReg) (s : State) : Result := shiftOp false false .w16 false d n .scalar s

/-- `VSHL.U16 Qd, Qn, Qm` (R171). -/
def execVshlU16 (d n m : QReg) (s : State) : Result := shiftOp false false .w16 true d n (.vector m) s

/-- `VSHL.U16 Qd, Qn, Rs` (R171). -/
def execVshlU16Scalar (d n : QReg) (s : State) : Result := shiftOp false false .w16 true d n .scalar s

/-- `VSHL.S32 Qd, Qn, Qm` (R171). -/
def execVshlS32 (d n m : QReg) (s : State) : Result := shiftOp false false .w32 false d n (.vector m) s

/-- `VSHL.S32 Qd, Qn, Rs` (R171). -/
def execVshlS32Scalar (d n : QReg) (s : State) : Result := shiftOp false false .w32 false d n .scalar s

/-- `VSHL.U32 Qd, Qn, Qm` (R171). -/
def execVshlU32 (d n m : QReg) (s : State) : Result := shiftOp false false .w32 true d n (.vector m) s

/-- `VSHL.U32 Qd, Qn, Rs` (R171). -/
def execVshlU32Scalar (d n : QReg) (s : State) : Result := shiftOp false false .w32 true d n .scalar s

/-- `VRSHL.S8 Qd, Qn, Qm` (R172). -/
def execVrshlS8 (d n m : QReg) (s : State) : Result := shiftOp true false .w8 false d n (.vector m) s

/-- `VRSHL.S8 Qd, Qn, Rs` (R172). -/
def execVrshlS8Scalar (d n : QReg) (s : State) : Result := shiftOp true false .w8 false d n .scalar s

/-- `VRSHL.U8 Qd, Qn, Qm` (R172). -/
def execVrshlU8 (d n m : QReg) (s : State) : Result := shiftOp true false .w8 true d n (.vector m) s

/-- `VRSHL.U8 Qd, Qn, Rs` (R172). -/
def execVrshlU8Scalar (d n : QReg) (s : State) : Result := shiftOp true false .w8 true d n .scalar s

/-- `VRSHL.S16 Qd, Qn, Qm` (R172). -/
def execVrshlS16 (d n m : QReg) (s : State) : Result := shiftOp true false .w16 false d n (.vector m) s

/-- `VRSHL.S16 Qd, Qn, Rs` (R172). -/
def execVrshlS16Scalar (d n : QReg) (s : State) : Result := shiftOp true false .w16 false d n .scalar s

/-- `VRSHL.U16 Qd, Qn, Qm` (R172). -/
def execVrshlU16 (d n m : QReg) (s : State) : Result := shiftOp true false .w16 true d n (.vector m) s

/-- `VRSHL.U16 Qd, Qn, Rs` (R172). -/
def execVrshlU16Scalar (d n : QReg) (s : State) : Result := shiftOp true false .w16 true d n .scalar s

/-- `VRSHL.S32 Qd, Qn, Qm` (R172). -/
def execVrshlS32 (d n m : QReg) (s : State) : Result := shiftOp true false .w32 false d n (.vector m) s

/-- `VRSHL.S32 Qd, Qn, Rs` (R172). -/
def execVrshlS32Scalar (d n : QReg) (s : State) : Result := shiftOp true false .w32 false d n .scalar s

/-- `VRSHL.U32 Qd, Qn, Qm` (R172). -/
def execVrshlU32 (d n m : QReg) (s : State) : Result := shiftOp true false .w32 true d n (.vector m) s

/-- `VRSHL.U32 Qd, Qn, Rs` (R172). -/
def execVrshlU32Scalar (d n : QReg) (s : State) : Result := shiftOp true false .w32 true d n .scalar s

/-- `VQSHL.S8 Qd, Qn, Qm` (R173). -/
def execVqshlS8 (d n m : QReg) (s : State) : Result := shiftOp false true .w8 false d n (.vector m) s

/-- `VQSHL.S8 Qd, Qn, Rs` (R173). -/
def execVqshlS8Scalar (d n : QReg) (s : State) : Result := shiftOp false true .w8 false d n .scalar s

/-- `VQSHL.U8 Qd, Qn, Qm` (R173). -/
def execVqshlU8 (d n m : QReg) (s : State) : Result := shiftOp false true .w8 true d n (.vector m) s

/-- `VQSHL.U8 Qd, Qn, Rs` (R173). -/
def execVqshlU8Scalar (d n : QReg) (s : State) : Result := shiftOp false true .w8 true d n .scalar s

/-- `VQSHL.S16 Qd, Qn, Qm` (R173). -/
def execVqshlS16 (d n m : QReg) (s : State) : Result := shiftOp false true .w16 false d n (.vector m) s

/-- `VQSHL.S16 Qd, Qn, Rs` (R173). -/
def execVqshlS16Scalar (d n : QReg) (s : State) : Result := shiftOp false true .w16 false d n .scalar s

/-- `VQSHL.U16 Qd, Qn, Qm` (R173). -/
def execVqshlU16 (d n m : QReg) (s : State) : Result := shiftOp false true .w16 true d n (.vector m) s

/-- `VQSHL.U16 Qd, Qn, Rs` (R173). -/
def execVqshlU16Scalar (d n : QReg) (s : State) : Result := shiftOp false true .w16 true d n .scalar s

/-- `VQSHL.S32 Qd, Qn, Qm` (R173). -/
def execVqshlS32 (d n m : QReg) (s : State) : Result := shiftOp false true .w32 false d n (.vector m) s

/-- `VQSHL.S32 Qd, Qn, Rs` (R173). -/
def execVqshlS32Scalar (d n : QReg) (s : State) : Result := shiftOp false true .w32 false d n .scalar s

/-- `VQSHL.U32 Qd, Qn, Qm` (R173). -/
def execVqshlU32 (d n m : QReg) (s : State) : Result := shiftOp false true .w32 true d n (.vector m) s

/-- `VQSHL.U32 Qd, Qn, Rs` (R173). -/
def execVqshlU32Scalar (d n : QReg) (s : State) : Result := shiftOp false true .w32 true d n .scalar s

/-- `VQRSHL.S8 Qd, Qn, Qm` (R174). -/
def execVqrshlS8 (d n m : QReg) (s : State) : Result := shiftOp true true .w8 false d n (.vector m) s

/-- `VQRSHL.S8 Qd, Qn, Rs` (R174). -/
def execVqrshlS8Scalar (d n : QReg) (s : State) : Result := shiftOp true true .w8 false d n .scalar s

/-- `VQRSHL.U8 Qd, Qn, Qm` (R174). -/
def execVqrshlU8 (d n m : QReg) (s : State) : Result := shiftOp true true .w8 true d n (.vector m) s

/-- `VQRSHL.U8 Qd, Qn, Rs` (R174). -/
def execVqrshlU8Scalar (d n : QReg) (s : State) : Result := shiftOp true true .w8 true d n .scalar s

/-- `VQRSHL.S16 Qd, Qn, Qm` (R174). -/
def execVqrshlS16 (d n m : QReg) (s : State) : Result := shiftOp true true .w16 false d n (.vector m) s

/-- `VQRSHL.S16 Qd, Qn, Rs` (R174). -/
def execVqrshlS16Scalar (d n : QReg) (s : State) : Result := shiftOp true true .w16 false d n .scalar s

/-- `VQRSHL.U16 Qd, Qn, Qm` (R174). -/
def execVqrshlU16 (d n m : QReg) (s : State) : Result := shiftOp true true .w16 true d n (.vector m) s

/-- `VQRSHL.U16 Qd, Qn, Rs` (R174). -/
def execVqrshlU16Scalar (d n : QReg) (s : State) : Result := shiftOp true true .w16 true d n .scalar s

/-- `VQRSHL.S32 Qd, Qn, Qm` (R174). -/
def execVqrshlS32 (d n m : QReg) (s : State) : Result := shiftOp true true .w32 false d n (.vector m) s

/-- `VQRSHL.S32 Qd, Qn, Rs` (R174). -/
def execVqrshlS32Scalar (d n : QReg) (s : State) : Result := shiftOp true true .w32 false d n .scalar s

/-- `VQRSHL.U32 Qd, Qn, Qm` (R174). -/
def execVqrshlU32 (d n m : QReg) (s : State) : Result := shiftOp true true .w32 true d n (.vector m) s

/-- `VQRSHL.U32 Qd, Qn, Rs` (R174). -/
def execVqrshlU32Scalar (d n : QReg) (s : State) : Result := shiftOp true true .w32 true d n .scalar s

/-- `VMULLB.S8 Qd, Qn, Qm` (R176). -/
def execVmullbS8 (d n m : QReg) (s : State) : Result := widenMulOp 0 .w8 false d n m s

/-- `VMULLB.U8 Qd, Qn, Qm` (R176). -/
def execVmullbU8 (d n m : QReg) (s : State) : Result := widenMulOp 0 .w8 true d n m s

/-- `VMULLB.S16 Qd, Qn, Qm` (R176). -/
def execVmullbS16 (d n m : QReg) (s : State) : Result := widenMulOp 0 .w16 false d n m s

/-- `VMULLB.U16 Qd, Qn, Qm` (R176). -/
def execVmullbU16 (d n m : QReg) (s : State) : Result := widenMulOp 0 .w16 true d n m s

/-- `VMULLB.S32 Qd, Qn, Qm` (R176). -/
def execVmullbS32 (d n m : QReg) (s : State) : Result := widenMulOp 0 .w32 false d n m s

/-- `VMULLB.U32 Qd, Qn, Qm` (R176). -/
def execVmullbU32 (d n m : QReg) (s : State) : Result := widenMulOp 0 .w32 true d n m s

/-- `VMULLT.S8 Qd, Qn, Qm` (R177). -/
def execVmulltS8 (d n m : QReg) (s : State) : Result := widenMulOp 1 .w8 false d n m s

/-- `VMULLT.U8 Qd, Qn, Qm` (R177). -/
def execVmulltU8 (d n m : QReg) (s : State) : Result := widenMulOp 1 .w8 true d n m s

/-- `VMULLT.S16 Qd, Qn, Qm` (R177). -/
def execVmulltS16 (d n m : QReg) (s : State) : Result := widenMulOp 1 .w16 false d n m s

/-- `VMULLT.U16 Qd, Qn, Qm` (R177). -/
def execVmulltU16 (d n m : QReg) (s : State) : Result := widenMulOp 1 .w16 true d n m s

/-- `VMULLT.S32 Qd, Qn, Qm` (R177). -/
def execVmulltS32 (d n m : QReg) (s : State) : Result := widenMulOp 1 .w32 false d n m s

/-- `VMULLT.U32 Qd, Qn, Qm` (R177). -/
def execVmulltU32 (d n m : QReg) (s : State) : Result := widenMulOp 1 .w32 true d n m s

/-- `VQDMULH.S8 Qd, Qn, Qm` (R179). -/
def execVqdmulhS8 (d n m : QReg) (s : State) : Result := laneOp (doublingMulHighLane false) .w8 false d n (.vector m) s

/-- `VQDMULH.S8 Qd, Qn, Rs` (R179). -/
def execVqdmulhS8Scalar (d n : QReg) (s : State) : Result := laneOp (doublingMulHighLane false) .w8 false d n .scalar s

/-- `VQDMULH.S16 Qd, Qn, Qm` (R179). -/
def execVqdmulhS16 (d n m : QReg) (s : State) : Result := laneOp (doublingMulHighLane false) .w16 false d n (.vector m) s

/-- `VQDMULH.S16 Qd, Qn, Rs` (R179). -/
def execVqdmulhS16Scalar (d n : QReg) (s : State) : Result := laneOp (doublingMulHighLane false) .w16 false d n .scalar s

/-- `VQDMULH.S32 Qd, Qn, Qm` (R179). -/
def execVqdmulhS32 (d n m : QReg) (s : State) : Result := laneOp (doublingMulHighLane false) .w32 false d n (.vector m) s

/-- `VQDMULH.S32 Qd, Qn, Rs` (R179). -/
def execVqdmulhS32Scalar (d n : QReg) (s : State) : Result := laneOp (doublingMulHighLane false) .w32 false d n .scalar s

/-- `VQRDMULH.S8 Qd, Qn, Qm` (R180). -/
def execVqrdmulhS8 (d n m : QReg) (s : State) : Result := laneOp (doublingMulHighLane true) .w8 false d n (.vector m) s

/-- `VQRDMULH.S8 Qd, Qn, Rs` (R180). -/
def execVqrdmulhS8Scalar (d n : QReg) (s : State) : Result := laneOp (doublingMulHighLane true) .w8 false d n .scalar s

/-- `VQRDMULH.S16 Qd, Qn, Qm` (R180). -/
def execVqrdmulhS16 (d n m : QReg) (s : State) : Result := laneOp (doublingMulHighLane true) .w16 false d n (.vector m) s

/-- `VQRDMULH.S16 Qd, Qn, Rs` (R180). -/
def execVqrdmulhS16Scalar (d n : QReg) (s : State) : Result := laneOp (doublingMulHighLane true) .w16 false d n .scalar s

/-- `VQRDMULH.S32 Qd, Qn, Qm` (R180). -/
def execVqrdmulhS32 (d n m : QReg) (s : State) : Result := laneOp (doublingMulHighLane true) .w32 false d n (.vector m) s

/-- `VQRDMULH.S32 Qd, Qn, Rs` (R180). -/
def execVqrdmulhS32Scalar (d n : QReg) (s : State) : Result := laneOp (doublingMulHighLane true) .w32 false d n .scalar s

end Sys2Proof.Machine
end

