-- ==== Sys2Proof/Machine/StateAccess.lean ====
section
/-! DEFINITION. MSR and MRS (spec/47_state_access.md, R240 to R251). -/

namespace Sys2Proof.Machine

/-- `MSR VPR, Rs` (R241). -/
def execMsrVpr (s : State) : Result := writeState .vpr s

/-- `MRS RES, VPR` (R242). -/
def execMrsVpr (s : State) : Result := readState .vpr s

/-- `MSR STATUS, Rs` (R243). -/
def execMsrStatus (s : State) : Result := writeState .status s

/-- `MRS RES, STATUS` (R244). -/
def execMrsStatus (s : State) : Result := readState .status s

/-- `MSR LOOPCOUNT, Rs` (R245). -/
def execMsrLoopcount (s : State) : Result := writeState .loopcount s

/-- `MRS RES, LOOPCOUNT` (R246). -/
def execMrsLoopcount (s : State) : Result := readState .loopcount s

/-- `MSR LTPSIZE, Rs` (R247). -/
def execMsrLtpsize (s : State) : Result := writeState .ltpsize s

/-- `MRS RES, LTPSIZE` (R248). -/
def execMrsLtpsize (s : State) : Result := readState .ltpsize s

/-- `MSR ECI, Rs` (R249). -/
def execMsrEci (s : State) : Result := writeState .eci s

/-- `MRS RES, ECI` (R250). -/
def execMrsEci (s : State) : Result := readState .eci s

end Sys2Proof.Machine
end

