-- ==== Sys2Proof/Machine/Dispatch.lean ====
section
/-! DEFINITION. The meaning of every operation: one arm per constructor of Instr, one call per arm. -/

namespace Sys2Proof.Machine

def exec (i : Instr) (s : State) : Host.Outcome State Fault Refusal :=
  match i with
  | .vand d n m => Sys2Proof.Machine.execVand d n m s
  | .vbic d n m => Sys2Proof.Machine.execVbic d n m s
  | .vorr d n m => Sys2Proof.Machine.execVorr d n m s
  | .vorn d n m => Sys2Proof.Machine.execVorn d n m s
  | .veor d n m => Sys2Proof.Machine.execVeor d n m s
  | .vaddI8 d n m => Sys2Proof.Machine.execVaddI8 d n m s
  | .vaddI8Scalar d n => Sys2Proof.Machine.execVaddI8Scalar d n s
  | .vaddI16 d n m => Sys2Proof.Machine.execVaddI16 d n m s
  | .vaddI16Scalar d n => Sys2Proof.Machine.execVaddI16Scalar d n s
  | .vaddI32 d n m => Sys2Proof.Machine.execVaddI32 d n m s
  | .vaddI32Scalar d n => Sys2Proof.Machine.execVaddI32Scalar d n s
  | .vsubI8 d n m => Sys2Proof.Machine.execVsubI8 d n m s
  | .vsubI8Scalar d n => Sys2Proof.Machine.execVsubI8Scalar d n s
  | .vsubI16 d n m => Sys2Proof.Machine.execVsubI16 d n m s
  | .vsubI16Scalar d n => Sys2Proof.Machine.execVsubI16Scalar d n s
  | .vsubI32 d n m => Sys2Proof.Machine.execVsubI32 d n m s
  | .vsubI32Scalar d n => Sys2Proof.Machine.execVsubI32Scalar d n s
  | .vmulI8 d n m => Sys2Proof.Machine.execVmulI8 d n m s
  | .vmulI8Scalar d n => Sys2Proof.Machine.execVmulI8Scalar d n s
  | .vmulI16 d n m => Sys2Proof.Machine.execVmulI16 d n m s
  | .vmulI16Scalar d n => Sys2Proof.Machine.execVmulI16Scalar d n s
  | .vmulI32 d n m => Sys2Proof.Machine.execVmulI32 d n m s
  | .vmulI32Scalar d n => Sys2Proof.Machine.execVmulI32Scalar d n s
  | .vmaxS8 d n m => Sys2Proof.Machine.execVmaxS8 d n m s
  | .vmaxU8 d n m => Sys2Proof.Machine.execVmaxU8 d n m s
  | .vmaxS16 d n m => Sys2Proof.Machine.execVmaxS16 d n m s
  | .vmaxU16 d n m => Sys2Proof.Machine.execVmaxU16 d n m s
  | .vmaxS32 d n m => Sys2Proof.Machine.execVmaxS32 d n m s
  | .vmaxU32 d n m => Sys2Proof.Machine.execVmaxU32 d n m s
  | .vminS8 d n m => Sys2Proof.Machine.execVminS8 d n m s
  | .vminU8 d n m => Sys2Proof.Machine.execVminU8 d n m s
  | .vminS16 d n m => Sys2Proof.Machine.execVminS16 d n m s
  | .vminU16 d n m => Sys2Proof.Machine.execVminU16 d n m s
  | .vminS32 d n m => Sys2Proof.Machine.execVminS32 d n m s
  | .vminU32 d n m => Sys2Proof.Machine.execVminU32 d n m s
  | .vabdS8 d n m => Sys2Proof.Machine.execVabdS8 d n m s
  | .vabdU8 d n m => Sys2Proof.Machine.execVabdU8 d n m s
  | .vabdS16 d n m => Sys2Proof.Machine.execVabdS16 d n m s
  | .vabdU16 d n m => Sys2Proof.Machine.execVabdU16 d n m s
  | .vabdS32 d n m => Sys2Proof.Machine.execVabdS32 d n m s
  | .vabdU32 d n m => Sys2Proof.Machine.execVabdU32 d n m s
  | .vhaddS8 d n m => Sys2Proof.Machine.execVhaddS8 d n m s
  | .vhaddS8Scalar d n => Sys2Proof.Machine.execVhaddS8Scalar d n s
  | .vhaddU8 d n m => Sys2Proof.Machine.execVhaddU8 d n m s
  | .vhaddU8Scalar d n => Sys2Proof.Machine.execVhaddU8Scalar d n s
  | .vhaddS16 d n m => Sys2Proof.Machine.execVhaddS16 d n m s
  | .vhaddS16Scalar d n => Sys2Proof.Machine.execVhaddS16Scalar d n s
  | .vhaddU16 d n m => Sys2Proof.Machine.execVhaddU16 d n m s
  | .vhaddU16Scalar d n => Sys2Proof.Machine.execVhaddU16Scalar d n s
  | .vhaddS32 d n m => Sys2Proof.Machine.execVhaddS32 d n m s
  | .vhaddS32Scalar d n => Sys2Proof.Machine.execVhaddS32Scalar d n s
  | .vhaddU32 d n m => Sys2Proof.Machine.execVhaddU32 d n m s
  | .vhaddU32Scalar d n => Sys2Proof.Machine.execVhaddU32Scalar d n s
  | .vhsubS8 d n m => Sys2Proof.Machine.execVhsubS8 d n m s
  | .vhsubS8Scalar d n => Sys2Proof.Machine.execVhsubS8Scalar d n s
  | .vhsubU8 d n m => Sys2Proof.Machine.execVhsubU8 d n m s
  | .vhsubU8Scalar d n => Sys2Proof.Machine.execVhsubU8Scalar d n s
  | .vhsubS16 d n m => Sys2Proof.Machine.execVhsubS16 d n m s
  | .vhsubS16Scalar d n => Sys2Proof.Machine.execVhsubS16Scalar d n s
  | .vhsubU16 d n m => Sys2Proof.Machine.execVhsubU16 d n m s
  | .vhsubU16Scalar d n => Sys2Proof.Machine.execVhsubU16Scalar d n s
  | .vhsubS32 d n m => Sys2Proof.Machine.execVhsubS32 d n m s
  | .vhsubS32Scalar d n => Sys2Proof.Machine.execVhsubS32Scalar d n s
  | .vhsubU32 d n m => Sys2Proof.Machine.execVhsubU32 d n m s
  | .vhsubU32Scalar d n => Sys2Proof.Machine.execVhsubU32Scalar d n s
  | .vqaddS8 d n m => Sys2Proof.Machine.execVqaddS8 d n m s
  | .vqaddS8Scalar d n => Sys2Proof.Machine.execVqaddS8Scalar d n s
  | .vqaddU8 d n m => Sys2Proof.Machine.execVqaddU8 d n m s
  | .vqaddU8Scalar d n => Sys2Proof.Machine.execVqaddU8Scalar d n s
  | .vqaddS16 d n m => Sys2Proof.Machine.execVqaddS16 d n m s
  | .vqaddS16Scalar d n => Sys2Proof.Machine.execVqaddS16Scalar d n s
  | .vqaddU16 d n m => Sys2Proof.Machine.execVqaddU16 d n m s
  | .vqaddU16Scalar d n => Sys2Proof.Machine.execVqaddU16Scalar d n s
  | .vqaddS32 d n m => Sys2Proof.Machine.execVqaddS32 d n m s
  | .vqaddS32Scalar d n => Sys2Proof.Machine.execVqaddS32Scalar d n s
  | .vqaddU32 d n m => Sys2Proof.Machine.execVqaddU32 d n m s
  | .vqaddU32Scalar d n => Sys2Proof.Machine.execVqaddU32Scalar d n s
  | .vqsubS8 d n m => Sys2Proof.Machine.execVqsubS8 d n m s
  | .vqsubS8Scalar d n => Sys2Proof.Machine.execVqsubS8Scalar d n s
  | .vqsubU8 d n m => Sys2Proof.Machine.execVqsubU8 d n m s
  | .vqsubU8Scalar d n => Sys2Proof.Machine.execVqsubU8Scalar d n s
  | .vqsubS16 d n m => Sys2Proof.Machine.execVqsubS16 d n m s
  | .vqsubS16Scalar d n => Sys2Proof.Machine.execVqsubS16Scalar d n s
  | .vqsubU16 d n m => Sys2Proof.Machine.execVqsubU16 d n m s
  | .vqsubU16Scalar d n => Sys2Proof.Machine.execVqsubU16Scalar d n s
  | .vqsubS32 d n m => Sys2Proof.Machine.execVqsubS32 d n m s
  | .vqsubS32Scalar d n => Sys2Proof.Machine.execVqsubS32Scalar d n s
  | .vqsubU32 d n m => Sys2Proof.Machine.execVqsubU32 d n m s
  | .vqsubU32Scalar d n => Sys2Proof.Machine.execVqsubU32Scalar d n s
  | .vshlS8 d n m => Sys2Proof.Machine.execVshlS8 d n m s
  | .vshlS8Scalar d n => Sys2Proof.Machine.execVshlS8Scalar d n s
  | .vshlU8 d n m => Sys2Proof.Machine.execVshlU8 d n m s
  | .vshlU8Scalar d n => Sys2Proof.Machine.execVshlU8Scalar d n s
  | .vshlS16 d n m => Sys2Proof.Machine.execVshlS16 d n m s
  | .vshlS16Scalar d n => Sys2Proof.Machine.execVshlS16Scalar d n s
  | .vshlU16 d n m => Sys2Proof.Machine.execVshlU16 d n m s
  | .vshlU16Scalar d n => Sys2Proof.Machine.execVshlU16Scalar d n s
  | .vshlS32 d n m => Sys2Proof.Machine.execVshlS32 d n m s
  | .vshlS32Scalar d n => Sys2Proof.Machine.execVshlS32Scalar d n s
  | .vshlU32 d n m => Sys2Proof.Machine.execVshlU32 d n m s
  | .vshlU32Scalar d n => Sys2Proof.Machine.execVshlU32Scalar d n s
  | .vrshlS8 d n m => Sys2Proof.Machine.execVrshlS8 d n m s
  | .vrshlS8Scalar d n => Sys2Proof.Machine.execVrshlS8Scalar d n s
  | .vrshlU8 d n m => Sys2Proof.Machine.execVrshlU8 d n m s
  | .vrshlU8Scalar d n => Sys2Proof.Machine.execVrshlU8Scalar d n s
  | .vrshlS16 d n m => Sys2Proof.Machine.execVrshlS16 d n m s
  | .vrshlS16Scalar d n => Sys2Proof.Machine.execVrshlS16Scalar d n s
  | .vrshlU16 d n m => Sys2Proof.Machine.execVrshlU16 d n m s
  | .vrshlU16Scalar d n => Sys2Proof.Machine.execVrshlU16Scalar d n s
  | .vrshlS32 d n m => Sys2Proof.Machine.execVrshlS32 d n m s
  | .vrshlS32Scalar d n => Sys2Proof.Machine.execVrshlS32Scalar d n s
  | .vrshlU32 d n m => Sys2Proof.Machine.execVrshlU32 d n m s
  | .vrshlU32Scalar d n => Sys2Proof.Machine.execVrshlU32Scalar d n s
  | .vqshlS8 d n m => Sys2Proof.Machine.execVqshlS8 d n m s
  | .vqshlS8Scalar d n => Sys2Proof.Machine.execVqshlS8Scalar d n s
  | .vqshlU8 d n m => Sys2Proof.Machine.execVqshlU8 d n m s
  | .vqshlU8Scalar d n => Sys2Proof.Machine.execVqshlU8Scalar d n s
  | .vqshlS16 d n m => Sys2Proof.Machine.execVqshlS16 d n m s
  | .vqshlS16Scalar d n => Sys2Proof.Machine.execVqshlS16Scalar d n s
  | .vqshlU16 d n m => Sys2Proof.Machine.execVqshlU16 d n m s
  | .vqshlU16Scalar d n => Sys2Proof.Machine.execVqshlU16Scalar d n s
  | .vqshlS32 d n m => Sys2Proof.Machine.execVqshlS32 d n m s
  | .vqshlS32Scalar d n => Sys2Proof.Machine.execVqshlS32Scalar d n s
  | .vqshlU32 d n m => Sys2Proof.Machine.execVqshlU32 d n m s
  | .vqshlU32Scalar d n => Sys2Proof.Machine.execVqshlU32Scalar d n s
  | .vqrshlS8 d n m => Sys2Proof.Machine.execVqrshlS8 d n m s
  | .vqrshlS8Scalar d n => Sys2Proof.Machine.execVqrshlS8Scalar d n s
  | .vqrshlU8 d n m => Sys2Proof.Machine.execVqrshlU8 d n m s
  | .vqrshlU8Scalar d n => Sys2Proof.Machine.execVqrshlU8Scalar d n s
  | .vqrshlS16 d n m => Sys2Proof.Machine.execVqrshlS16 d n m s
  | .vqrshlS16Scalar d n => Sys2Proof.Machine.execVqrshlS16Scalar d n s
  | .vqrshlU16 d n m => Sys2Proof.Machine.execVqrshlU16 d n m s
  | .vqrshlU16Scalar d n => Sys2Proof.Machine.execVqrshlU16Scalar d n s
  | .vqrshlS32 d n m => Sys2Proof.Machine.execVqrshlS32 d n m s
  | .vqrshlS32Scalar d n => Sys2Proof.Machine.execVqrshlS32Scalar d n s
  | .vqrshlU32 d n m => Sys2Proof.Machine.execVqrshlU32 d n m s
  | .vqrshlU32Scalar d n => Sys2Proof.Machine.execVqrshlU32Scalar d n s
  | .vmullbS8 d n m => Sys2Proof.Machine.execVmullbS8 d n m s
  | .vmullbU8 d n m => Sys2Proof.Machine.execVmullbU8 d n m s
  | .vmullbS16 d n m => Sys2Proof.Machine.execVmullbS16 d n m s
  | .vmullbU16 d n m => Sys2Proof.Machine.execVmullbU16 d n m s
  | .vmullbS32 d n m => Sys2Proof.Machine.execVmullbS32 d n m s
  | .vmullbU32 d n m => Sys2Proof.Machine.execVmullbU32 d n m s
  | .vmulltS8 d n m => Sys2Proof.Machine.execVmulltS8 d n m s
  | .vmulltU8 d n m => Sys2Proof.Machine.execVmulltU8 d n m s
  | .vmulltS16 d n m => Sys2Proof.Machine.execVmulltS16 d n m s
  | .vmulltU16 d n m => Sys2Proof.Machine.execVmulltU16 d n m s
  | .vmulltS32 d n m => Sys2Proof.Machine.execVmulltS32 d n m s
  | .vmulltU32 d n m => Sys2Proof.Machine.execVmulltU32 d n m s
  | .vqdmulhS8 d n m => Sys2Proof.Machine.execVqdmulhS8 d n m s
  | .vqdmulhS8Scalar d n => Sys2Proof.Machine.execVqdmulhS8Scalar d n s
  | .vqdmulhS16 d n m => Sys2Proof.Machine.execVqdmulhS16 d n m s
  | .vqdmulhS16Scalar d n => Sys2Proof.Machine.execVqdmulhS16Scalar d n s
  | .vqdmulhS32 d n m => Sys2Proof.Machine.execVqdmulhS32 d n m s
  | .vqdmulhS32Scalar d n => Sys2Proof.Machine.execVqdmulhS32Scalar d n s
  | .vqrdmulhS8 d n m => Sys2Proof.Machine.execVqrdmulhS8 d n m s
  | .vqrdmulhS8Scalar d n => Sys2Proof.Machine.execVqrdmulhS8Scalar d n s
  | .vqrdmulhS16 d n m => Sys2Proof.Machine.execVqrdmulhS16 d n m s
  | .vqrdmulhS16Scalar d n => Sys2Proof.Machine.execVqrdmulhS16Scalar d n s
  | .vqrdmulhS32 d n m => Sys2Proof.Machine.execVqrdmulhS32 d n m s
  | .vqrdmulhS32Scalar d n => Sys2Proof.Machine.execVqrdmulhS32Scalar d n s
  | .vcaddI8Rot90 d n m => Sys2Proof.Machine.execVcaddI8Rot90 d n m s
  | .vcaddI16Rot90 d n m => Sys2Proof.Machine.execVcaddI16Rot90 d n m s
  | .vcaddI32Rot90 d n m => Sys2Proof.Machine.execVcaddI32Rot90 d n m s
  | .vcaddI8Rot270 d n m => Sys2Proof.Machine.execVcaddI8Rot270 d n m s
  | .vcaddI16Rot270 d n m => Sys2Proof.Machine.execVcaddI16Rot270 d n m s
  | .vcaddI32Rot270 d n m => Sys2Proof.Machine.execVcaddI32Rot270 d n m s
  | .vqdmladhS8 d n m => Sys2Proof.Machine.execVqdmladhS8 d n m s
  | .vqdmladhS16 d n m => Sys2Proof.Machine.execVqdmladhS16 d n m s
  | .vqdmladhS32 d n m => Sys2Proof.Machine.execVqdmladhS32 d n m s
  | .vqdmladhxS8 d n m => Sys2Proof.Machine.execVqdmladhxS8 d n m s
  | .vqdmladhxS16 d n m => Sys2Proof.Machine.execVqdmladhxS16 d n m s
  | .vqdmladhxS32 d n m => Sys2Proof.Machine.execVqdmladhxS32 d n m s
  | .vqrdmladhS8 d n m => Sys2Proof.Machine.execVqrdmladhS8 d n m s
  | .vqrdmladhS16 d n m => Sys2Proof.Machine.execVqrdmladhS16 d n m s
  | .vqrdmladhS32 d n m => Sys2Proof.Machine.execVqrdmladhS32 d n m s
  | .vqrdmladhxS8 d n m => Sys2Proof.Machine.execVqrdmladhxS8 d n m s
  | .vqrdmladhxS16 d n m => Sys2Proof.Machine.execVqrdmladhxS16 d n m s
  | .vqrdmladhxS32 d n m => Sys2Proof.Machine.execVqrdmladhxS32 d n m s
  | .vqdmlsdhS8 d n m => Sys2Proof.Machine.execVqdmlsdhS8 d n m s
  | .vqdmlsdhS16 d n m => Sys2Proof.Machine.execVqdmlsdhS16 d n m s
  | .vqdmlsdhS32 d n m => Sys2Proof.Machine.execVqdmlsdhS32 d n m s
  | .vqdmlsdhxS8 d n m => Sys2Proof.Machine.execVqdmlsdhxS8 d n m s
  | .vqdmlsdhxS16 d n m => Sys2Proof.Machine.execVqdmlsdhxS16 d n m s
  | .vqdmlsdhxS32 d n m => Sys2Proof.Machine.execVqdmlsdhxS32 d n m s
  | .vqrdmlsdhS8 d n m => Sys2Proof.Machine.execVqrdmlsdhS8 d n m s
  | .vqrdmlsdhS16 d n m => Sys2Proof.Machine.execVqrdmlsdhS16 d n m s
  | .vqrdmlsdhS32 d n m => Sys2Proof.Machine.execVqrdmlsdhS32 d n m s
  | .vqrdmlsdhxS8 d n m => Sys2Proof.Machine.execVqrdmlsdhxS8 d n m s
  | .vqrdmlsdhxS16 d n m => Sys2Proof.Machine.execVqrdmlsdhxS16 d n m s
  | .vqrdmlsdhxS32 d n m => Sys2Proof.Machine.execVqrdmlsdhxS32 d n m s
  | .vadcI32 d n m => Sys2Proof.Machine.execVadcI32 d n m s
  | .vadciI32 d n m => Sys2Proof.Machine.execVadciI32 d n m s
  | .vsbcI32 d n m => Sys2Proof.Machine.execVsbcI32 d n m s
  | .vsbciI32 d n m => Sys2Proof.Machine.execVsbciI32 d n m s
  | .vmladavS8 n m => Sys2Proof.Machine.execVmladavS8 n m s
  | .vmladavU8 n m => Sys2Proof.Machine.execVmladavU8 n m s
  | .vmladavS16 n m => Sys2Proof.Machine.execVmladavS16 n m s
  | .vmladavU16 n m => Sys2Proof.Machine.execVmladavU16 n m s
  | .vmladavS32 n m => Sys2Proof.Machine.execVmladavS32 n m s
  | .vmladavU32 n m => Sys2Proof.Machine.execVmladavU32 n m s
  | .vmladavxS8 n m => Sys2Proof.Machine.execVmladavxS8 n m s
  | .vmladavxS16 n m => Sys2Proof.Machine.execVmladavxS16 n m s
  | .vmladavxS32 n m => Sys2Proof.Machine.execVmladavxS32 n m s
  | .vmlsdavS8 n m => Sys2Proof.Machine.execVmlsdavS8 n m s
  | .vmlsdavS16 n m => Sys2Proof.Machine.execVmlsdavS16 n m s
  | .vmlsdavS32 n m => Sys2Proof.Machine.execVmlsdavS32 n m s
  | .vmlsdavxS8 n m => Sys2Proof.Machine.execVmlsdavxS8 n m s
  | .vmlsdavxS16 n m => Sys2Proof.Machine.execVmlsdavxS16 n m s
  | .vmlsdavxS32 n m => Sys2Proof.Machine.execVmlsdavxS32 n m s
  | .vrmlaldavhS32 n m => Sys2Proof.Machine.execVrmlaldavhS32 n m s
  | .vrmlaldavhU32 n m => Sys2Proof.Machine.execVrmlaldavhU32 n m s
  | .vrmlaldavhxS32 n m => Sys2Proof.Machine.execVrmlaldavhxS32 n m s
  | .vrmlsldavhS32 n m => Sys2Proof.Machine.execVrmlsldavhS32 n m s
  | .vrmlsldavhxS32 n m => Sys2Proof.Machine.execVrmlsldavhxS32 n m s
  | .vaddvS8 m => Sys2Proof.Machine.execVaddvS8 m s
  | .vaddvU8 m => Sys2Proof.Machine.execVaddvU8 m s
  | .vaddvS16 m => Sys2Proof.Machine.execVaddvS16 m s
  | .vaddvU16 m => Sys2Proof.Machine.execVaddvU16 m s
  | .vaddvS32 m => Sys2Proof.Machine.execVaddvS32 m s
  | .vaddvU32 m => Sys2Proof.Machine.execVaddvU32 m s
  | .vldrb8 d => Sys2Proof.Machine.execVldrb8 d s
  | .vldrbS16 d => Sys2Proof.Machine.execVldrbS16 d s
  | .vldrbU16 d => Sys2Proof.Machine.execVldrbU16 d s
  | .vldrh16 d => Sys2Proof.Machine.execVldrh16 d s
  | .vldrbS32 d => Sys2Proof.Machine.execVldrbS32 d s
  | .vldrbU32 d => Sys2Proof.Machine.execVldrbU32 d s
  | .vldrhS32 d => Sys2Proof.Machine.execVldrhS32 d s
  | .vldrhU32 d => Sys2Proof.Machine.execVldrhU32 d s
  | .vldrw32 d => Sys2Proof.Machine.execVldrw32 d s
  | .vstrb8 d => Sys2Proof.Machine.execVstrb8 d s
  | .vstrb16 d => Sys2Proof.Machine.execVstrb16 d s
  | .vstrh16 d => Sys2Proof.Machine.execVstrh16 d s
  | .vstrb32 d => Sys2Proof.Machine.execVstrb32 d s
  | .vstrh32 d => Sys2Proof.Machine.execVstrh32 d s
  | .vstrw32 d => Sys2Proof.Machine.execVstrw32 d s
  | .msrVpr => Sys2Proof.Machine.execMsrVpr s
  | .mrsVpr => Sys2Proof.Machine.execMrsVpr s
  | .msrStatus => Sys2Proof.Machine.execMsrStatus s
  | .mrsStatus => Sys2Proof.Machine.execMrsStatus s
  | .msrLoopcount => Sys2Proof.Machine.execMsrLoopcount s
  | .mrsLoopcount => Sys2Proof.Machine.execMrsLoopcount s
  | .msrLtpsize => Sys2Proof.Machine.execMsrLtpsize s
  | .mrsLtpsize => Sys2Proof.Machine.execMrsLtpsize s
  | .msrEci => Sys2Proof.Machine.execMsrEci s
  | .mrsEci => Sys2Proof.Machine.execMrsEci s

end Sys2Proof.Machine
end

