-- ==== Sys2Proof/Machine/Transaction.lean ====
section
/-! DEFINITION. How the machine takes what the outside delivers: a transaction (40_predication.md R123 steps 0 and 1,
then its operation), a reset, a direct register write, another agent's store, a change of the fault oracle. -/

namespace Sys2Proof.Machine

/-- A transaction. While HALTED = 1 there is no step (10_state.md R49); an illegal descriptor is refused with no state
change (60_exceptions.md R253); otherwise its operation runs. The order is that of 60_exceptions.md R257. -/
def runTransaction (t : Transaction) (s : State) : Result :=
  if s.halted then .fault .halted
  else
    match decodeFor s.cfg.nq t.desc with
    | .error _ => refuseDescriptor (s.present t)
    | .ok i => exec i (s.present t)

/-- Direct access: Q[r] <- v and nothing else, for a register the machine has (70_reset_and_hazards.md R276; log 10). -/
def writeDirect (r : QReg) (v : QWord) (s : State) : State :=
  if r.val < s.cfg.nq then s.setQ r v else s

/-- Another agent's store of one byte (20_memory.md R71; log 11). -/
def storeFromOutside (addr : Word) (b : Byte) (s : State) : State := s.setMem (writeByte s.mem addr.toNat b)

/-- The memory subsystem changes which requests fault (20_memory.md R61; log 6). -/
def changeFaults (faults : List FaultEntry) (s : State) : State := { s with memFaults := faults }

/-- One event of the outside. Only a transaction is affected by HALTED (10_state.md R49, 70_reset_and_hazards.md R270;
log 14). -/
def takeInput (i : Input) (s : State) : Result :=
  match i with
  | .transaction t => runTransaction t s
  | .reset draw => .next (s.coreReset draw)
  | .writeQ r v => .next (writeDirect r v s)
  | .writeMem addr b => .next (storeFromOutside addr b s)
  | .setFaults faults => .next (changeFaults faults s)

/-- The state with its oldest event taken off. -/
def State.withInputs (s : State) (rest : List Input) : State := { s with inputs := rest }

/-- One step: the oldest event, or nothing while none is pending (70_reset_and_hazards.md R271; log 15). -/
def takeNext (s : State) : Result :=
  match s.inputs with
  | [] => .next s
  | i :: rest => takeInput i (s.withInputs rest)

/-- The transaction that presents a descriptor with every other port 0. -/
def bareTransaction (desc : Word) : Transaction where
  desc := desc
  scalar := 0
  accIn := 0
  addr := 0
  faultPc := 0

end Sys2Proof.Machine
end

