-- ==== Sys2Proof/Machine/Step.lean ====
section
/-! DEFINITION. One step of the machine. The PSU fetches nothing (10_state.md R32): its operations are the
transactions the outside presents, oldest first (log 1). -/

namespace Sys2Proof.Machine

/-- One step: one event of the outside (10_state.md R31, 70_reset_and_hazards.md R280). -/
def step (s : State) : Host.Outcome State Fault Refusal := takeNext s

/-- The state with the descriptor `w` as its very next transaction, in front of the pending events: the PSU has no
program memory, so this stands for the dispatch layer's presenting it (log 1). -/
def State.withFetchWord (s : State) (nbits w : Nat) : State :=
  s.withInputs (.transaction (bareTransaction (BitVec.ofNat 32 (w % 2 ^ nbits))) :: s.inputs)

end Sys2Proof.Machine
end

