-- ==== Sys2Proof/Safety.lean ====
section
/-! DEFINITION. The terms claims use: the invariant of the state, and what an operation leaves unchanged (its frame). -/

namespace Sys2Proof.Machine

/-- ECI holds a reserved value (10_state.md R39). -/
abbrev EciReserved (eci : BitVec 3) : Prop := eci = 3#3 ∨ eci = 6#3 ∨ eci = 7#3

/-- What every step keeps: memory is in its canonical form, the bits VPR and STATUS do not implement are 0 (10_state.md
R34, R41), and a halted PSU still shows the reserved ECI value that stopped it (60_exceptions.md R252). -/
abbrev State.Inv (s : State) : Prop :=
  memWf s.mem = true ∧ s.vpr.extractLsb' 24 8 = 0#8 ∧ s.status.extractLsb' 0 27 = 0#27 ∧
    (s.halted = true → EciReserved s.eci)

/-- Tail predication is inactive: LTPSIZE is 4 or more, or LOOPCOUNT is greater than 16 >> LTPSIZE (40_predication.md
R112). -/
abbrev TailInactive (s : State) : Prop := 4 ≤ s.ltpsize.toNat ∨ 16 / 2 ^ s.ltpsize.toNat < s.loopcount.toNat

/-! ## Frames -/

/-- Every vector register but Q[d] is unchanged. -/
def KeepsQExcept (s t : State) (d : QReg) : Prop := ∀ r : QReg, r ≠ d → t.q[r] = s.q[r]

/-- Every vector register is unchanged. -/
def KeepsQ (s t : State) : Prop := ∀ r : QReg, t.q[r] = s.q[r]

/-- Every byte of memory reads as before. -/
def KeepsMemory (s t : State) : Prop := ∀ a : Nat, readByte t.mem a = readByte s.mem a

/-- What no vector operation changes: LOOPCOUNT, LTPSIZE, HALTED, the input ports, the fault oracle, the parameters and
the pending events. -/
def KeepsRest (s t : State) : Prop :=
  t.loopcount = s.loopcount ∧ t.ltpsize = s.ltpsize ∧ t.halted = s.halted ∧ t.ports = s.ports ∧
    t.memFaults = s.memFaults ∧ t.cfg = s.cfg ∧ t.inputs = s.inputs

/-- The Advancer ran with execute mask E (40_predication.md R120, R121). -/
def Advances (s t : State) (e : Mask) : Prop :=
  t.eci = (if s.eci = 5#3 then 1#3 else 0#3) ∧ t.vpr = advanceVpr s.cfg.advanceEciGating e s.vpr

/-- VPR and ECI are unchanged: the Advancer did not run. -/
def KeepsPredicates (s t : State) : Prop := t.vpr = s.vpr ∧ t.eci = s.eci

/-- The operation ended with DONE and this RES, the Advancer ran, and nothing outside the operation changed. -/
def Completes (s t : State) (e : Mask) (res : Option DWord) : Prop :=
  Advances s t e ∧ KeepsRest s t ∧ t.outcome = some .done ∧ t.res = res

/-- A completed operation that wrote at most Q[d] and STATUS. -/
def WritesOnlyQ (s t : State) (d : QReg) (e : Mask) : Prop :=
  Completes s t e none ∧ KeepsQExcept s t d ∧ KeepsMemory s t ∧ t.requests = s.requests

/-- A completed reduction: RES, and no register, flag, byte of memory or request. -/
def Reduces (s t : State) (e : Mask) (res : DWord) : Prop :=
  Completes s t e (some res) ∧ KeepsQ s t ∧ KeepsMemory s t ∧ t.status = s.status ∧ t.requests = s.requests

/-! ## Lanes under a mask -/

/-- The predicate of lane e, M[e*w/8 + w/8 - 1 : e*w/8] (40_predication.md R116). -/
def lanePredicate (m : Mask) (e w : Nat) : BitVec (w / 8) := m.extractLsb' (e * (w / 8)) (w / 8)

/-- The lane form of the merge: (old AND NOT Expand_k(p)) OR (new AND Expand_k(p)) (40_predication.md R117). -/
def mergeLane (m : Mask) (e w : Nat) (old new : BitVec w) : BitVec w :=
  (old &&& ~~~((expand (w / 8) (lanePredicate m e w)).setWidth w)) |||
    (new &&& (expand (w / 8) (lanePredicate m e w)).setWidth w)

/-- Q[d] after an operation whose lanes of width w have these values, merged under a mask. -/
def LanesMerged (s t : State) (d : QReg) (m : Mask) (w : Nat) (value : Nat → BitVec w) : Prop :=
  ∀ e, e < lanes w → elem t.q[d] e w = mergeLane m e w (elem s.q[d] e w) (value e)

/-- STATUS after a saturating operation: QC is set when it was or when `saturated` holds, every other bit is as before
(10_state.md R42). -/
def LatchesQC (s t : State) (saturated : Prop) : Prop :=
  (∀ i, i ≠ 27 → t.status.getLsbD i = s.status.getLsbD i) ∧
    (statusQC t.status = true ↔ statusQC s.status = true ∨ saturated)

/-- STATUS after a flag write with carry c: N, Z and V are 0 and every other bit but C is as before
(44_pair_carry.md R204). -/
def WritesFlags (s t : State) (c : Bool) : Prop :=
  statusC t.status = c ∧ statusN t.status = false ∧ statusZ t.status = false ∧ statusV t.status = false ∧
    ∀ i, i < 28 → t.status.getLsbD i = s.status.getLsbD i

/-- The exact value v clamped to the range of w bits (00_scope.md R13). -/
def clamp (w : Nat) (u : Bool) (v : Int) : Int := max (satLow w u) (min (satHigh w u) v)

/-- The exact value v does not fit in w bits (00_scope.md R13). -/
def Overflows (w : Nat) (u : Bool) (v : Int) : Prop := v < satLow w u ∨ satHigh w u < v

/-- The byte of an n-byte value v that memory holds at offset i (20_memory.md R64). -/
def memoryByte (endian : Endian) (n v i : Nat) : Byte :=
  match endian with
  | .little => BitVec.ofNat 8 (v / 2 ^ (8 * i))
  | .big => BitVec.ofNat 8 (v / 2 ^ (8 * (n - 1 - i)))

/-- Lane j of the destination of a load that reached element j, from the state before it (46_memory_access.md R233,
R236). -/
def loadedValue (s : State) (d : QReg) (m e : Mask) (w : Width) (ms : MSize) (u : Bool) (j : Nat) : BitVec w.bits :=
  if active e j w.bits = false then s.lane d j w.bits
  else if active m j w.bits then
    let x := extendElement u ms w.bits (s.elementValue ms j)
    match s.cfg.loadInactive with
    | .preserve => mergeLane m j w.bits (s.lane d j w.bits) x
    | .zero => x
  else
    match s.cfg.loadInactive with
    | .preserve => s.lane d j w.bits
    | .zero => 0

/-- The requests of the first n elements of a load: exactly the active ones, ascending (20_memory.md R67, R69). -/
def loadRequests (s : State) (m : Mask) (w : Width) (ms : MSize) (n : Nat) : List MemRequest :=
  ((List.range n).filter fun j => active m j w.bits).map fun j => .read (s.elementAddress ms j) ms s.ports.faultPc

/-- The requests of the first n elements of a store (20_memory.md R67, R69). -/
def storeRequests (s : State) (d : QReg) (m : Mask) (w : Width) (ms : MSize) (n : Nat) : List MemRequest :=
  ((List.range n).filter fun j => active m j w.bits).map fun j =>
    .write (s.elementAddress ms j) ms (s.storedValue w ms d j) s.ports.faultPc

/-- Byte i of element j of the first n elements of a store lies at address a (46_memory_access.md R230, R234). -/
def StoredAt (s : State) (m : Mask) (w : Width) (ms : MSize) (n a j i : Nat) : Prop :=
  j < n ∧ active m j w.bits = true ∧ i < ms.bytes ∧ a = (addrPlus (s.elementAddress ms j) i).toNat

/-- Memory after the first n elements of a store: the stored bytes, and every other address as before. -/
def StoresElements (s t : State) (d : QReg) (m : Mask) (w : Width) (ms : MSize) (n : Nat) : Prop :=
  (∀ a j i, StoredAt s m w ms n a j i →
      readByte t.mem a = memoryByte s.cfg.endian ms.bytes (s.storedValue w ms d j) i) ∧
    ∀ a, (∀ j i, ¬ StoredAt s m w ms n a j i) → readByte t.mem a = readByte s.mem a

end Sys2Proof.Machine
end

