-- ==== Sys2Proof/Certificates/Slice0/Forms.lean ====
section
/-! DEFINITION. The vocabulary of the statements: which constructors a statement is about, each with the width,
signedness and operands its row of 30_encoding.md R90 gives it, the legality table itself, and the shapes of
statement that several families share. -/

namespace Sys2Proof.Machine

/-! ## The forms of each operation -/

/-- The forms of VADD with their width, signedness U and second operand (30_encoding.md R90). -/
def vaddForms (d n m : QReg) : List (Instr × Width × Bool × Operand2) :=
  [(.vaddI8 d n m, .w8, false, .vector m), (.vaddI8Scalar d n, .w8, false, .scalar),
    (.vaddI16 d n m, .w16, false, .vector m), (.vaddI16Scalar d n, .w16, false, .scalar),
    (.vaddI32 d n m, .w32, false, .vector m), (.vaddI32Scalar d n, .w32, false, .scalar)]

/-- The forms of VSUB with their width, signedness U and second operand (30_encoding.md R90). -/
def vsubForms (d n m : QReg) : List (Instr × Width × Bool × Operand2) :=
  [(.vsubI8 d n m, .w8, false, .vector m), (.vsubI8Scalar d n, .w8, false, .scalar),
    (.vsubI16 d n m, .w16, false, .vector m), (.vsubI16Scalar d n, .w16, false, .scalar),
    (.vsubI32 d n m, .w32, false, .vector m), (.vsubI32Scalar d n, .w32, false, .scalar)]

/-- The forms of VMUL with their width, signedness U and second operand (30_encoding.md R90). -/
def vmulForms (d n m : QReg) : List (Instr × Width × Bool × Operand2) :=
  [(.vmulI8 d n m, .w8, false, .vector m), (.vmulI8Scalar d n, .w8, false, .scalar),
    (.vmulI16 d n m, .w16, false, .vector m), (.vmulI16Scalar d n, .w16, false, .scalar),
    (.vmulI32 d n m, .w32, false, .vector m), (.vmulI32Scalar d n, .w32, false, .scalar)]

/-- The forms of VMAX with their width, signedness U and second operand (30_encoding.md R90). -/
def vmaxForms (d n m : QReg) : List (Instr × Width × Bool × Operand2) :=
  [(.vmaxS8 d n m, .w8, false, .vector m), (.vmaxU8 d n m, .w8, true, .vector m),
    (.vmaxS16 d n m, .w16, false, .vector m), (.vmaxU16 d n m, .w16, true, .vector m),
    (.vmaxS32 d n m, .w32, false, .vector m), (.vmaxU32 d n m, .w32, true, .vector m)]

/-- The forms of VMIN with their width, signedness U and second operand (30_encoding.md R90). -/
def vminForms (d n m : QReg) : List (Instr × Width × Bool × Operand2) :=
  [(.vminS8 d n m, .w8, false, .vector m), (.vminU8 d n m, .w8, true, .vector m),
    (.vminS16 d n m, .w16, false, .vector m), (.vminU16 d n m, .w16, true, .vector m),
    (.vminS32 d n m, .w32, false, .vector m), (.vminU32 d n m, .w32, true, .vector m)]

/-- The forms of VABD with their width, signedness U and second operand (30_encoding.md R90). -/
def vabdForms (d n m : QReg) : List (Instr × Width × Bool × Operand2) :=
  [(.vabdS8 d n m, .w8, false, .vector m), (.vabdU8 d n m, .w8, true, .vector m),
    (.vabdS16 d n m, .w16, false, .vector m), (.vabdU16 d n m, .w16, true, .vector m),
    (.vabdS32 d n m, .w32, false, .vector m), (.vabdU32 d n m, .w32, true, .vector m)]

/-- The forms of VHADD with their width, signedness U and second operand (30_encoding.md R90). -/
def vhaddForms (d n m : QReg) : List (Instr × Width × Bool × Operand2) :=
  [(.vhaddS8 d n m, .w8, false, .vector m), (.vhaddS8Scalar d n, .w8, false, .scalar),
    (.vhaddU8 d n m, .w8, true, .vector m), (.vhaddU8Scalar d n, .w8, true, .scalar),
    (.vhaddS16 d n m, .w16, false, .vector m), (.vhaddS16Scalar d n, .w16, false, .scalar),
    (.vhaddU16 d n m, .w16, true, .vector m), (.vhaddU16Scalar d n, .w16, true, .scalar),
    (.vhaddS32 d n m, .w32, false, .vector m), (.vhaddS32Scalar d n, .w32, false, .scalar),
    (.vhaddU32 d n m, .w32, true, .vector m), (.vhaddU32Scalar d n, .w32, true, .scalar)]

/-- The forms of VHSUB with their width, signedness U and second operand (30_encoding.md R90). -/
def vhsubForms (d n m : QReg) : List (Instr × Width × Bool × Operand2) :=
  [(.vhsubS8 d n m, .w8, false, .vector m), (.vhsubS8Scalar d n, .w8, false, .scalar),
    (.vhsubU8 d n m, .w8, true, .vector m), (.vhsubU8Scalar d n, .w8, true, .scalar),
    (.vhsubS16 d n m, .w16, false, .vector m), (.vhsubS16Scalar d n, .w16, false, .scalar),
    (.vhsubU16 d n m, .w16, true, .vector m), (.vhsubU16Scalar d n, .w16, true, .scalar),
    (.vhsubS32 d n m, .w32, false, .vector m), (.vhsubS32Scalar d n, .w32, false, .scalar),
    (.vhsubU32 d n m, .w32, true, .vector m), (.vhsubU32Scalar d n, .w32, true, .scalar)]

/-- The forms of VQADD with their width, signedness U and second operand (30_encoding.md R90). -/
def vqaddForms (d n m : QReg) : List (Instr × Width × Bool × Operand2) :=
  [(.vqaddS8 d n m, .w8, false, .vector m), (.vqaddS8Scalar d n, .w8, false, .scalar),
    (.vqaddU8 d n m, .w8, true, .vector m), (.vqaddU8Scalar d n, .w8, true, .scalar),
    (.vqaddS16 d n m, .w16, false, .vector m), (.vqaddS16Scalar d n, .w16, false, .scalar),
    (.vqaddU16 d n m, .w16, true, .vector m), (.vqaddU16Scalar d n, .w16, true, .scalar),
    (.vqaddS32 d n m, .w32, false, .vector m), (.vqaddS32Scalar d n, .w32, false, .scalar),
    (.vqaddU32 d n m, .w32, true, .vector m), (.vqaddU32Scalar d n, .w32, true, .scalar)]

/-- The forms of VQSUB with their width, signedness U and second operand (30_encoding.md R90). -/
def vqsubForms (d n m : QReg) : List (Instr × Width × Bool × Operand2) :=
  [(.vqsubS8 d n m, .w8, false, .vector m), (.vqsubS8Scalar d n, .w8, false, .scalar),
    (.vqsubU8 d n m, .w8, true, .vector m), (.vqsubU8Scalar d n, .w8, true, .scalar),
    (.vqsubS16 d n m, .w16, false, .vector m), (.vqsubS16Scalar d n, .w16, false, .scalar),
    (.vqsubU16 d n m, .w16, true, .vector m), (.vqsubU16Scalar d n, .w16, true, .scalar),
    (.vqsubS32 d n m, .w32, false, .vector m), (.vqsubS32Scalar d n, .w32, false, .scalar),
    (.vqsubU32 d n m, .w32, true, .vector m), (.vqsubU32Scalar d n, .w32, true, .scalar)]

/-- The forms of VSHL with their width, signedness U and second operand (30_encoding.md R90). -/
def vshlForms (d n m : QReg) : List (Instr × Width × Bool × Operand2) :=
  [(.vshlS8 d n m, .w8, false, .vector m), (.vshlS8Scalar d n, .w8, false, .scalar),
    (.vshlU8 d n m, .w8, true, .vector m), (.vshlU8Scalar d n, .w8, true, .scalar),
    (.vshlS16 d n m, .w16, false, .vector m), (.vshlS16Scalar d n, .w16, false, .scalar),
    (.vshlU16 d n m, .w16, true, .vector m), (.vshlU16Scalar d n, .w16, true, .scalar),
    (.vshlS32 d n m, .w32, false, .vector m), (.vshlS32Scalar d n, .w32, false, .scalar),
    (.vshlU32 d n m, .w32, true, .vector m), (.vshlU32Scalar d n, .w32, true, .scalar)]

/-- The forms of VRSHL with their width, signedness U and second operand (30_encoding.md R90). -/
def vrshlForms (d n m : QReg) : List (Instr × Width × Bool × Operand2) :=
  [(.vrshlS8 d n m, .w8, false, .vector m), (.vrshlS8Scalar d n, .w8, false, .scalar),
    (.vrshlU8 d n m, .w8, true, .vector m), (.vrshlU8Scalar d n, .w8, true, .scalar),
    (.vrshlS16 d n m, .w16, false, .vector m), (.vrshlS16Scalar d n, .w16, false, .scalar),
    (.vrshlU16 d n m, .w16, true, .vector m), (.vrshlU16Scalar d n, .w16, true, .scalar),
    (.vrshlS32 d n m, .w32, false, .vector m), (.vrshlS32Scalar d n, .w32, false, .scalar),
    (.vrshlU32 d n m, .w32, true, .vector m), (.vrshlU32Scalar d n, .w32, true, .scalar)]

/-- The forms of VQSHL with their width, signedness U and second operand (30_encoding.md R90). -/
def vqshlForms (d n m : QReg) : List (Instr × Width × Bool × Operand2) :=
  [(.vqshlS8 d n m, .w8, false, .vector m), (.vqshlS8Scalar d n, .w8, false, .scalar),
    (.vqshlU8 d n m, .w8, true, .vector m), (.vqshlU8Scalar d n, .w8, true, .scalar),
    (.vqshlS16 d n m, .w16, false, .vector m), (.vqshlS16Scalar d n, .w16, false, .scalar),
    (.vqshlU16 d n m, .w16, true, .vector m), (.vqshlU16Scalar d n, .w16, true, .scalar),
    (.vqshlS32 d n m, .w32, false, .vector m), (.vqshlS32Scalar d n, .w32, false, .scalar),
    (.vqshlU32 d n m, .w32, true, .vector m), (.vqshlU32Scalar d n, .w32, true, .scalar)]

/-- The forms of VQRSHL with their width, signedness U and second operand (30_encoding.md R90). -/
def vqrshlForms (d n m : QReg) : List (Instr × Width × Bool × Operand2) :=
  [(.vqrshlS8 d n m, .w8, false, .vector m), (.vqrshlS8Scalar d n, .w8, false, .scalar),
    (.vqrshlU8 d n m, .w8, true, .vector m), (.vqrshlU8Scalar d n, .w8, true, .scalar),
    (.vqrshlS16 d n m, .w16, false, .vector m), (.vqrshlS16Scalar d n, .w16, false, .scalar),
    (.vqrshlU16 d n m, .w16, true, .vector m), (.vqrshlU16Scalar d n, .w16, true, .scalar),
    (.vqrshlS32 d n m, .w32, false, .vector m), (.vqrshlS32Scalar d n, .w32, false, .scalar),
    (.vqrshlU32 d n m, .w32, true, .vector m), (.vqrshlU32Scalar d n, .w32, true, .scalar)]

/-- The forms of VMULLB with their width, signedness U and second operand (30_encoding.md R90). -/
def vmullbForms (d n m : QReg) : List (Instr × Width × Bool × Operand2) :=
  [(.vmullbS8 d n m, .w8, false, .vector m), (.vmullbU8 d n m, .w8, true, .vector m),
    (.vmullbS16 d n m, .w16, false, .vector m), (.vmullbU16 d n m, .w16, true, .vector m),
    (.vmullbS32 d n m, .w32, false, .vector m), (.vmullbU32 d n m, .w32, true, .vector m)]

/-- The forms of VMULLT with their width, signedness U and second operand (30_encoding.md R90). -/
def vmulltForms (d n m : QReg) : List (Instr × Width × Bool × Operand2) :=
  [(.vmulltS8 d n m, .w8, false, .vector m), (.vmulltU8 d n m, .w8, true, .vector m),
    (.vmulltS16 d n m, .w16, false, .vector m), (.vmulltU16 d n m, .w16, true, .vector m),
    (.vmulltS32 d n m, .w32, false, .vector m), (.vmulltU32 d n m, .w32, true, .vector m)]

/-- The forms of VQDMULH with their width, signedness U and second operand (30_encoding.md R90). -/
def vqdmulhForms (d n m : QReg) : List (Instr × Width × Bool × Operand2) :=
  [(.vqdmulhS8 d n m, .w8, false, .vector m), (.vqdmulhS8Scalar d n, .w8, false, .scalar),
    (.vqdmulhS16 d n m, .w16, false, .vector m), (.vqdmulhS16Scalar d n, .w16, false, .scalar),
    (.vqdmulhS32 d n m, .w32, false, .vector m), (.vqdmulhS32Scalar d n, .w32, false, .scalar)]

/-- The forms of VQRDMULH with their width, signedness U and second operand (30_encoding.md R90). -/
def vqrdmulhForms (d n m : QReg) : List (Instr × Width × Bool × Operand2) :=
  [(.vqrdmulhS8 d n m, .w8, false, .vector m), (.vqrdmulhS8Scalar d n, .w8, false, .scalar),
    (.vqrdmulhS16 d n m, .w16, false, .vector m), (.vqrdmulhS16Scalar d n, .w16, false, .scalar),
    (.vqrdmulhS32 d n m, .w32, false, .vector m), (.vqrdmulhS32Scalar d n, .w32, false, .scalar)]

/-- The forms of VCADD90 with their width, signedness U and second operand (30_encoding.md R90). -/
def vcadd90Forms (d n m : QReg) : List (Instr × Width × Bool × Operand2) :=
  [(.vcaddI8Rot90 d n m, .w8, false, .vector m), (.vcaddI16Rot90 d n m, .w16, false, .vector m),
    (.vcaddI32Rot90 d n m, .w32, false, .vector m)]

/-- The forms of VCADD270 with their width, signedness U and second operand (30_encoding.md R90). -/
def vcadd270Forms (d n m : QReg) : List (Instr × Width × Bool × Operand2) :=
  [(.vcaddI8Rot270 d n m, .w8, false, .vector m), (.vcaddI16Rot270 d n m, .w16, false, .vector m),
    (.vcaddI32Rot270 d n m, .w32, false, .vector m)]

/-- The forms of the dual-high family with their width and whether they exchange, subtract and round (R194 to R202). -/
def dualHighForms (d n m : QReg) : List (Instr × Width × Bool × Bool × Bool) :=
  [(.vqdmladhS8 d n m, .w8, false, false, false), (.vqdmladhS16 d n m, .w16, false, false, false),
    (.vqdmladhS32 d n m, .w32, false, false, false), (.vqdmladhxS8 d n m, .w8, true, false, false),
    (.vqdmladhxS16 d n m, .w16, true, false, false), (.vqdmladhxS32 d n m, .w32, true, false, false),
    (.vqrdmladhS8 d n m, .w8, false, false, true), (.vqrdmladhS16 d n m, .w16, false, false, true),
    (.vqrdmladhS32 d n m, .w32, false, false, true), (.vqrdmladhxS8 d n m, .w8, true, false, true),
    (.vqrdmladhxS16 d n m, .w16, true, false, true), (.vqrdmladhxS32 d n m, .w32, true, false, true),
    (.vqdmlsdhS8 d n m, .w8, false, true, false), (.vqdmlsdhS16 d n m, .w16, false, true, false),
    (.vqdmlsdhS32 d n m, .w32, false, true, false), (.vqdmlsdhxS8 d n m, .w8, true, true, false),
    (.vqdmlsdhxS16 d n m, .w16, true, true, false), (.vqdmlsdhxS32 d n m, .w32, true, true, false),
    (.vqrdmlsdhS8 d n m, .w8, false, true, true), (.vqrdmlsdhS16 d n m, .w16, false, true, true),
    (.vqrdmlsdhS32 d n m, .w32, false, true, true), (.vqrdmlsdhxS8 d n m, .w8, true, true, true),
    (.vqrdmlsdhxS16 d n m, .w16, true, true, true), (.vqrdmlsdhxS32 d n m, .w32, true, true, true)]

/-- The forms of the dual accumulate with their width, exchange index X, subtract flag and U (R212 to R215). -/
def dualAccForms (n m : QReg) : List (Instr × Width × Nat × Bool × Bool) :=
  [(.vmladavS8 n m, .w8, 0, false, false), (.vmladavU8 n m, .w8, 0, false, true),
    (.vmladavS16 n m, .w16, 0, false, false), (.vmladavU16 n m, .w16, 0, false, true),
    (.vmladavS32 n m, .w32, 0, false, false), (.vmladavU32 n m, .w32, 0, false, true),
    (.vmladavxS8 n m, .w8, 1, false, false), (.vmladavxS16 n m, .w16, 1, false, false),
    (.vmladavxS32 n m, .w32, 1, false, false), (.vmlsdavS8 n m, .w8, 0, true, false),
    (.vmlsdavS16 n m, .w16, 0, true, false), (.vmlsdavS32 n m, .w32, 0, true, false),
    (.vmlsdavxS8 n m, .w8, 1, true, false), (.vmlsdavxS16 n m, .w16, 1, true, false),
    (.vmlsdavxS32 n m, .w32, 1, true, false)]

/-- The forms of the rounding dual accumulate with X, the subtract flag and U (R217 to R220). -/
def roundDualForms (n m : QReg) : List (Instr × Nat × Bool × Bool) :=
  [(.vrmlaldavhS32 n m, 0, false, false), (.vrmlaldavhU32 n m, 0, false, true),
    (.vrmlaldavhxS32 n m, 1, false, false), (.vrmlsldavhS32 n m, 0, true, false),
    (.vrmlsldavhxS32 n m, 1, true, false)]

/-- The forms of VADDV with their width and U (R221). -/
def vaddvForms (m : QReg) : List (Instr × Width × Bool) :=
  [(.vaddvS8 m, .w8, false), (.vaddvU8 m, .w8, true), (.vaddvS16 m, .w16, false), (.vaddvU16 m, .w16, true),
    (.vaddvS32 m, .w32, false), (.vaddvU32 m, .w32, true)]

/-- The forms of VLDR with their register width, memory element size and U (R233). -/
def loadForms (d : QReg) : List (Instr × Width × MSize × Bool) :=
  [(.vldrb8 d, .w8, .byte, false), (.vldrbS16 d, .w16, .byte, false), (.vldrbU16 d, .w16, .byte, true),
    (.vldrh16 d, .w16, .half, false), (.vldrbS32 d, .w32, .byte, false), (.vldrbU32 d, .w32, .byte, true),
    (.vldrhS32 d, .w32, .half, false), (.vldrhU32 d, .w32, .half, true), (.vldrw32 d, .w32, .word, false)]

/-- The forms of VSTR with their register width and memory element size (R234). -/
def storeForms (d : QReg) : List (Instr × Width × MSize) :=
  [(.vstrb8 d, .w8, .byte), (.vstrb16 d, .w16, .byte), (.vstrh16 d, .w16, .half), (.vstrb32 d, .w32, .byte),
    (.vstrh32 d, .w32, .half), (.vstrw32 d, .w32, .word)]

/-- MSR of each special register (30_encoding.md R97). -/
def msrForms : List (Instr × Sysreg) :=
  [(.msrVpr, .vpr), (.msrStatus, .status), (.msrLoopcount, .loopcount), (.msrLtpsize, .ltpsize), (.msrEci, .eci)]

/-- MRS of each special register (30_encoding.md R97). -/
def mrsForms : List (Instr × Sysreg) :=
  [(.mrsVpr, .vpr), (.mrsStatus, .status), (.mrsLoopcount, .loopcount), (.mrsLtpsize, .ltpsize), (.mrsEci, .eci)]

/-- The operations that are not vector operations (47_state_access.md, 40_predication.md). -/
def stateAccess : List Instr := msrForms.map Prod.fst ++ mrsForms.map Prod.fst

/-- The carry family (44_pair_carry.md R203). -/
def carryFamily (d n m : QReg) : List Instr := [.vadcI32 d n m, .vadciI32 d n m, .vsbcI32 d n m, .vsbciI32 d n m]

/-- The operations whose result leaves on RES: the reductions and MRS (60_exceptions.md R255, 45_reduction.md R210). -/
def GivesResult (i : Instr) : Prop :=
  (∃ n m, i ∈ (dualAccForms n m).map Prod.fst ∨ i ∈ (roundDualForms n m).map Prod.fst) ∨
    (∃ m, i ∈ (vaddvForms m).map Prod.fst) ∨ i ∈ mrsForms.map Prod.fst

/-! ## The legality table -/

/-- A row of 30_encoding.md R90 for OP 0x00 to 0x34: the values SIZE, U and S may take, and whether QD, QN and QM may
take any value or must be 0. -/
structure LegalRow where
  op : BitVec 6
  size : List (BitVec 2)
  u : List Bool
  s : List Bool
  anyQd : Bool
  anyQn : Bool
  anyQm : Bool

/-- The rows of 30_encoding.md R90 for OP 0x00 to 0x34, in its order. -/
def legalRows : List LegalRow :=
  [⟨0x00, [0], [false], [false], true, true, true⟩,
   ⟨0x01, [0], [false], [false], true, true, true⟩,
   ⟨0x02, [0], [false], [false], true, true, true⟩,
   ⟨0x03, [0], [false], [false], true, true, true⟩,
   ⟨0x04, [0], [false], [false], true, true, true⟩,
   ⟨0x08, [0, 1, 2], [false], [false, true], true, true, true⟩,
   ⟨0x09, [0, 1, 2], [false], [false, true], true, true, true⟩,
   ⟨0x0A, [0, 1, 2], [false], [false, true], true, true, true⟩,
   ⟨0x0B, [0, 1, 2], [false, true], [false], true, true, true⟩,
   ⟨0x0C, [0, 1, 2], [false, true], [false], true, true, true⟩,
   ⟨0x0D, [0, 1, 2], [false, true], [false], true, true, true⟩,
   ⟨0x0E, [0, 1, 2], [false, true], [false, true], true, true, true⟩,
   ⟨0x0F, [0, 1, 2], [false, true], [false, true], true, true, true⟩,
   ⟨0x10, [0, 1, 2], [false, true], [false, true], true, true, true⟩,
   ⟨0x11, [0, 1, 2], [false, true], [false, true], true, true, true⟩,
   ⟨0x14, [0, 1, 2], [false, true], [false, true], true, true, true⟩,
   ⟨0x15, [0, 1, 2], [false, true], [false, true], true, true, true⟩,
   ⟨0x16, [0, 1, 2], [false, true], [false, true], true, true, true⟩,
   ⟨0x17, [0, 1, 2], [false, true], [false, true], true, true, true⟩,
   ⟨0x18, [0, 1, 2], [false, true], [false], true, true, true⟩,
   ⟨0x19, [0, 1, 2], [false, true], [false], true, true, true⟩,
   ⟨0x1A, [0, 1, 2], [false], [false, true], true, true, true⟩,
   ⟨0x1B, [0, 1, 2], [false], [false, true], true, true, true⟩,
   ⟨0x1C, [0, 1, 2], [false], [false], true, true, true⟩,
   ⟨0x1D, [0, 1, 2], [false], [false], true, true, true⟩,
   ⟨0x20, [0, 1, 2], [false], [false], true, true, true⟩,
   ⟨0x21, [0, 1, 2], [false], [false], true, true, true⟩,
   ⟨0x22, [0, 1, 2], [false], [false], true, true, true⟩,
   ⟨0x23, [0, 1, 2], [false], [false], true, true, true⟩,
   ⟨0x24, [0, 1, 2], [false], [false], true, true, true⟩,
   ⟨0x25, [0, 1, 2], [false], [false], true, true, true⟩,
   ⟨0x26, [0, 1, 2], [false], [false], true, true, true⟩,
   ⟨0x27, [0, 1, 2], [false], [false], true, true, true⟩,
   ⟨0x28, [2], [false], [false], true, true, true⟩,
   ⟨0x29, [2], [false], [false], true, true, true⟩,
   ⟨0x2A, [2], [false], [false], true, true, true⟩,
   ⟨0x2B, [2], [false], [false], true, true, true⟩,
   ⟨0x2C, [0, 1, 2], [false, true], [false], false, true, true⟩,
   ⟨0x2D, [0, 1, 2], [false], [false], false, true, true⟩,
   ⟨0x2E, [0, 1, 2], [false], [false], false, true, true⟩,
   ⟨0x2F, [0, 1, 2], [false], [false], false, true, true⟩,
   ⟨0x30, [2], [false, true], [false], false, true, true⟩,
   ⟨0x31, [2], [false], [false], false, true, true⟩,
   ⟨0x32, [2], [false], [false], false, true, true⟩,
   ⟨0x33, [2], [false], [false], false, true, true⟩,
   ⟨0x34, [0, 1, 2], [false, true], [false], false, false, true⟩]

/-- The fields take values this row allows: MSIZE = 0, and QM = 0 where S = 1 (R85, R86, R90). -/
def LegalRow.Allows (r : LegalRow) (f : Fields) : Prop :=
  f.op = r.op ∧ f.size ∈ r.size ∧ f.u ∈ r.u ∧ f.s ∈ r.s ∧ f.msize = 0 ∧ (r.anyQd = true ∨ f.qd = 0) ∧
    (r.anyQn = true ∨ f.qn = 0) ∧ (r.anyQm = true ∨ f.qm = 0) ∧ (f.s = true → f.qm = 0)

/-- The row of VLDR (R90): SIZE 0 to 2, MSIZE <= SIZE, U = 1 only where MSIZE < SIZE. -/
def LoadAllowed (f : Fields) : Prop :=
  f.op = 0x35 ∧ f.size ≠ 3 ∧ f.msize ≤ f.size ∧ (f.u = true → f.msize < f.size) ∧ f.s = false ∧ f.qn = 0 ∧ f.qm = 0

/-- The row of VSTR (R90). -/
def StoreAllowed (f : Fields) : Prop :=
  f.op = 0x36 ∧ f.size ≠ 3 ∧ f.msize ≤ f.size ∧ f.u = false ∧ f.s = false ∧ f.qn = 0 ∧ f.qm = 0

/-- The rows of MSR and MRS (R90, R97): SYSREG 0 to 4 in QN, every other field 0. -/
def StateAccessAllowed (f : Fields) : Prop :=
  (f.op = 0x38 ∨ f.op = 0x39) ∧ f.size = 0 ∧ f.u = false ∧ f.s = false ∧ f.msize = 0 ∧ f.qd = 0 ∧ f.qn ≤ 4 ∧ f.qm = 0

/-- A descriptor is legal exactly when RSV is 0 (R87) and some row of R90 allows its fields. -/
def LegalFields (f : Fields) : Prop :=
  f.rsv = 0 ∧ ((∃ r ∈ legalRows, r.Allows f) ∨ LoadAllowed f ∨ StoreAllowed f ∨ StateAccessAllowed f)

/-! ## Shapes of statement -/

/-- The operation completes from both states and gives the same RES. -/
def SameResult (i : Instr) (s s' : State) : Prop :=
  ∃ t t', exec i s = .next t ∧ exec i s' = .next t' ∧ t.res.isSome = true ∧ t'.res = t.res

/-- Every form completes, writes Q[d] lane by lane with the value of the two operands truncated to the lane and merged
under M, and changes neither STATUS nor anything else but what the Advancer does (42_arith.md R150). -/
def WrapsLanes (forms : QReg → QReg → QReg → List (Instr × Width × Bool × Operand2)) (value : Int → Int → Int) : Prop :=
  ∀ (s : State) (e : Mask) (d n m : QReg), eciExecMask s.eci = some e →
    ∀ i w u src, (i, w, u, src) ∈ forms d n m →
      ∃ t, exec i s = .next t ∧ WritesOnlyQ s t d e ∧ t.status = s.status ∧
        LanesMerged s t d (s.resolve e) w.bits fun k =>
          trunc w.bits (value (intOf u (s.lane n k w.bits)) (intOf u (s.lane2 src k w.bits)))

/-- Every form completes, writes Q[d] lane by lane with the value of the two operands clamped to the lane's range and
merged under M, sets QC exactly when a lane whose lowest byte is active overflowed, and changes nothing else but what
the Advancer does (40_predication.md R119). -/
def SaturatesLanes (forms : QReg → QReg → QReg → List (Instr × Width × Bool × Operand2))
    (value : (w : Nat) → Int → Int → Int) : Prop :=
  ∀ (s : State) (e : Mask) (d n m : QReg), eciExecMask s.eci = some e →
    ∀ i w u src, (i, w, u, src) ∈ forms d n m →
      let exact := fun k => value w.bits (intOf u (s.lane n k w.bits)) (intOf u (s.lane2 src k w.bits))
      ∃ t, exec i s = .next t ∧ WritesOnlyQ s t d e ∧
        LatchesQC s t (∃ k, k < lanes w.bits ∧ active (s.resolve e) k w.bits = true ∧ Overflows w.bits u (exact k)) ∧
        LanesMerged s t d (s.resolve e) w.bits fun k => trunc w.bits (clamp w.bits u (exact k))

/-- The exact value of a shift of x by the signed amount sh: x * 2^sh to the left, the floor of x / 2^k to the right by
k = -sh, with 2^(k-1) added first when rounding (43_shift_mul.md R170). -/
def shifted (round : Bool) (x sh : Int) : Int :=
  if 0 ≤ sh then x * 2 ^ sh.toNat
  else if round then (x + 2 ^ ((-sh).toNat - 1)) / 2 ^ (-sh).toNat
  else x / 2 ^ (-sh).toNat

/-- The product n[k XOR X] * m[k] of a dual accumulate, subtracted in the odd lanes of a subtract form (45_reduction.md
R211, R216). -/
def dualTerm (s : State) (n m : QReg) (w : Width) (x : Nat) (sub u : Bool) (k : Nat) : Int :=
  let p := intOf u (s.lane n (k ^^^ x) w.bits) * intOf u (s.lane m k w.bits)
  if sub = true ∧ k % 2 = 1 then -p else p

/-- The sum of a term over the active lanes; an inactive lane contributes nothing (45_reduction.md R210). -/
def activeSum (m : Mask) (w : Nat) (term : Nat → Int) : Int :=
  ∑ k ∈ Finset.range (lanes w), if active m k w then term k else 0

/-- One link of the carry chain: lane k of R is the low 32 bits of carry-in + a[k] + (b[k] XOR inv), and the carry for
the next lane is the sum's bit 32 where lane k is active, the carry-in where it is not (44_pair_carry.md R203). -/
def CarryLink (mask : Mask) (a b : QWord) (inv : Word) (k : Nat) (cin cout : Bool) (r : Word) : Prop :=
  let sum := cin.toNat + (elem a k 32).toNat + (elem b k 32 ^^^ inv).toNat
  r = BitVec.ofNat 32 sum ∧ cout = (if active mask k 32 then decide (2 ^ 32 ≤ sum) else cin)

/-- A carry operation: there are carries c0 to c4, c0 the carry-in, that link the four lanes; Q[d] takes the lanes
merged under M; the flags are written with c4 where `always` holds or a lane of 0x1111 is active, and STATUS is
unchanged otherwise (44_pair_carry.md R203, R204). -/
def ChainsCarries (s : State) (i : Instr) (d n m : QReg) (e : Mask) (cin : Bool) (inv : Word) (always : Prop) : Prop :=
  ∃ t, exec i s = .next t ∧ WritesOnlyQ s t d e ∧
    ∃ (c : Nat → Bool) (r : Nat → Word), c 0 = cin ∧
      (∀ k, k < 4 → CarryLink (s.resolve e) s.q[n] s.q[m] inv k (c k) (c (k + 1)) (r k)) ∧
      LanesMerged s t d (s.resolve e) 32 r ∧
      ((always ∨ s.resolve e &&& 0x1111#16 ≠ 0) → WritesFlags s t (c 4)) ∧
      (¬ (always ∨ s.resolve e &&& 0x1111#16 ≠ 0) → t.status = s.status)

end Sys2Proof.Machine
end

