-- ==== Sys2Proof/Certificates/Slice0/Obligations.lean ====
section
/-! DEFINITION. The statements for the provers. -/

open Sys2Proof Sys2Proof.Machine

/-- For every operation of the table (each constructor, every register operand at every value of its 3-bit field),
decoding its descriptor word gives that operation: no bit of an encoding is dropped. (R80, R81, R90) -/
def Obligations.DecodeOfEncodeIsTheInstruction : Prop :=
  ∀ i : Instr, decode (encode i) = .ok i

/-- For every 32-bit word, if it decodes to an operation then it is that operation's descriptor word: no two words mean
the same operation, and every unused field of a legal word is 0. (R81, R88, R90) -/
def Obligations.LegalWordIsTheEncodingOfItsInstruction : Prop :=
  ∀ (w : Word) (i : Instr), decode w = .ok i → encode i = w

/-- A 32-bit word decodes to an operation exactly when RSV is 0 and its fields take values that some row of the legality
table R90 allows, the 53 rows being written out. (R87, R88, R90) -/
def Obligations.LegalDescriptorsAreTheRowsOfTheTable : Prop :=
  ∀ w : Word, (∃ i, decode w = .ok i) ↔ LegalFields (Fields.ofWord w)

/-- Words the spec writes out decode to the operations it names. Four are the examples of R99, the other nine stand in
95_test_vectors.md and follow from the field places of R81 and the table R90. VQADD.S8 Q2, Q0, Q1 = 0x00008410;
VADD.I16 Q1, Q1, Rs = 0x00041248; VLDRB.U16 Q3 = 0x00000775; MSR ECI = 0x00004038; VADCI.I32 Q2, Q0, Q1 =
0x000084A9; VMULLT.U16 Q2, Q0, Q1 = 0x00008559; VCADD.I16 #270 = 0x0000845D; VQRDMLSDHX.S16 = 0x00008467;
VRMLSLDAVH.S32 Q0, Q1 = 0x000080B2; VSTRH.16 Q3 = 0x00080676; VEOR Q2, Q0, Q1 = 0x00008404; VQRSHL.S16 = 0x00008457;
MRS VPR = 0x00000039. (R81, R90, R99) -/
def Obligations.SpecExampleWordsDecode : Prop :=
  decode 0x00008410 = .ok (.vqaddS8 2 0 1) ∧ decode 0x00041248 = .ok (.vaddI16Scalar 1 1) ∧
    decode 0x00000775 = .ok (.vldrbU16 3) ∧ decode 0x00004038 = .ok .msrEci ∧
    decode 0x000084A9 = .ok (.vadciI32 2 0 1) ∧ decode 0x00008559 = .ok (.vmulltU16 2 0 1) ∧
    decode 0x0000845D = .ok (.vcaddI16Rot270 2 0 1) ∧ decode 0x00008467 = .ok (.vqrdmlsdhxS16 2 0 1) ∧
    decode 0x000080B2 = .ok (.vrmlsldavhS32 0 1) ∧ decode 0x00080676 = .ok (.vstrh16 3) ∧
    decode 0x00008404 = .ok (.veor 2 0 1) ∧ decode 0x00008457 = .ok (.vqrshlS16 2 0 1) ∧
    decode 0x00000039 = .ok .mrsVpr

/-- When the PSU is not halted and the oldest pending event is a transaction whose descriptor decodes to an operation
that names only registers the machine has, the step is exec of that operation on the state with the transaction
taken off the queue, its inputs on the ports and no request issued yet. That transactions wait in a queue is the
model's choice (log 1). (R30, R31, R81, R123) -/
def Obligations.StepRunsTheDecodedOperation : Prop :=
  ∀ (s : State) (t : Transaction) (rest : List Input) (i : Instr),
    s.inputs = .transaction t :: rest → s.halted = false → decode t.desc = .ok i → i.wellFormed s.cfg.nq = true →
    step s = exec i { s with inputs := rest, ports := t, requests := [] }

/-- When the PSU is not halted and the oldest transaction's descriptor is illegal (by the legality table, or because it
names a register that is NQ or more), the step leaves every register, memory, HALTED, VPR, ECI and STATUS as they
were, issues no request, answers OUTCOME = ILLEGAL with no RES, and the transaction is over, so the next one is
taken normally. That transactions wait in a queue, that the inputs then stand on the ports, and that the request
list is the new transaction's (empty) are the model's choices (log 1, log 4, log 17). (R84, R253) -/
def Obligations.IllegalDescriptorChangesNoState : Prop :=
  ∀ (s : State) (t : Transaction) (rest : List Input), s.inputs = .transaction t :: rest → s.halted = false →
    (¬ LegalFields (Fields.ofWord t.desc) ∨ ∃ i, decode t.desc = .ok i ∧ ∃ r ∈ i.registers, s.cfg.nq ≤ r.val) →
    step s = .next { s with inputs := rest, ports := t, requests := [], outcome := some .illegal, res := none }

/-- While HALTED = 1 a transaction has no step (the model answers its fault halted, log 2); a step from a halted to a
running PSU takes a reset event; and a step that sets HALTED takes a transaction that starts with a reserved ECI and
ends with OUTCOME = ICV. (R49, R252, R257) -/
def Obligations.HaltedPsuTakesNoTransactionUntilReset : Prop :=
  (∀ (s : State) (t : Transaction) (rest : List Input), s.inputs = .transaction t :: rest → s.halted = true →
      step s = .fault .halted) ∧
    (∀ s u : State, s.halted = true → step s = .next u → u.halted = false →
      ∃ draw rest, s.inputs = .reset draw :: rest) ∧
    (∀ s u : State, s.halted = false → step s = .next u → u.halted = true →
      EciReserved s.eci ∧ u.outcome = some .icv ∧ ∃ t rest, s.inputs = .transaction t :: rest)

/-- Taking a reset event sets VPR to 0, LTPSIZE to 4, ECI to NONE and HALTED to 0, gives Q0 to Q7, LOOPCOUNT and the
five flags the drawn values with STATUS[26:0] = 0, and issues no request, whatever the state before (a halted PSU
included). That it empties the request list and keeps memory, the fault oracle, the parameters and the pending
events is the model's choice (log 4); that it waits in a queue is log 1. (R51, R270) -/
def Obligations.CoreResetSetsTheSpecifiedValues : Prop :=
  ∀ (s : State) (draw : ResetDraw) (rest : List Input), s.inputs = .reset draw :: rest →
    ∃ t, step s = .next t ∧ t.vpr = 0 ∧ t.ltpsize = 4 ∧ t.eci = 0 ∧ t.halted = false ∧ t.q = draw.q ∧
      t.loopcount = draw.loopcount ∧ statusN t.status = draw.n ∧ statusZ t.status = draw.z ∧
      statusC t.status = draw.c ∧ statusV t.status = draw.v ∧ statusQC t.status = draw.qc ∧
      t.status.extractLsb' 0 27 = 0#27 ∧ t.requests = [] ∧ t.mem = s.mem ∧ t.memFaults = s.memFaults ∧
      t.cfg = s.cfg ∧ t.inputs = rest

/-- From the state a reset event leaves, with any draw, the execute mask is 0xFFFF and the resolved mask is 0xFFFF.
(R51, R110, R273) -/
def Obligations.FirstOperationAfterResetHasEveryLaneActive : Prop :=
  ∀ (s : State) (draw : ResetDraw) (rest : List Input), s.inputs = .reset draw :: rest →
    ∃ t, step s = .next t ∧ eciExecMask t.eci = some 0xFFFF#16 ∧ t.resolve 0xFFFF#16 = 0xFFFF#16

/-- With nothing pending the PSU waits (log 15). A direct write of Q[r] with r below NQ changes that register and
nothing else, and one with r of NQ or more changes nothing (log 10); an outside store changes memory alone, which in
its canonical form then reads the byte at the address and as before everywhere else; a change of the fault oracle
changes the oracle alone (log 6, log 11). None runs the Resolver, the merge or the Advancer, and all act on a halted
PSU too (log 14). That they wait in a queue is log 1. (R61, R71, R84, R271, R276) -/
def Obligations.OutsideEventsActBetweenTransactions : Prop :=
  (∀ s : State, s.inputs = [] → step s = .next s) ∧
    (∀ (s : State) (r : QReg) (v : QWord) (rest : List Input), s.inputs = .writeQ r v :: rest →
      (r.val < s.cfg.nq → step s = .next { s with inputs := rest, q := s.q.set r v }) ∧
      (s.cfg.nq ≤ r.val → step s = .next { s with inputs := rest })) ∧
    (∀ (s : State) (a : Word) (b : Byte) (rest : List Input), s.inputs = .writeMem a b :: rest →
      step s = .next { s with inputs := rest, mem := writeByte s.mem a.toNat b } ∧
      (memWf s.mem = true → ∀ x : Nat,
        readByte (writeByte s.mem a.toNat b) x = if x = a.toNat then b else readByte s.mem x)) ∧
    (∀ (s : State) (faults : List FaultEntry) (rest : List Input), s.inputs = .setFaults faults :: rest →
      step s = .next { s with inputs := rest, memFaults := faults })

/-- Right after reset memory is in its canonical form, VPR[31:24] and STATUS[26:0] are 0 and the PSU is not halted.
(R34, R41, R51) -/
def Obligations.ResetMeetsTheInvariant : Prop :=
  State.reset.Inv

/-- From every state in which memory is in its canonical form, VPR[31:24] = 0, STATUS[26:0] = 0 and a halted PSU holds a
reserved ECI value, every step that answers a next state answers one in which the same holds, whatever event it
takes and whatever operation runs. (R34, R41, R49, R252) -/
def Obligations.EveryStepKeepsTheInvariant : Prop :=
  ∀ s t : State, s.Inv → step s = .next t → t.Inv

/-- If QC is set before a step that answers a next state, it is set after it, unless the step took a reset event or a
transaction whose descriptor is MSR STATUS. Exactly which operations set QC is in the statements of the saturating
families; no other operation changes it. (R42) -/
def Obligations.SaturationFlagIsSticky : Prop :=
  (∀ s t : State, statusQC s.status = true → step s = .next t → statusQC t.status = true ∨
      (∃ draw rest, s.inputs = .reset draw :: rest) ∨
      ∃ tx rest, s.inputs = .transaction tx :: rest ∧ decode tx.desc = .ok .msrStatus) ∧
    ∀ (d n m : QReg) (s t : State) (i : Instr),
      (i ∈ carryFamily d n m ∨ i ∈ (vaddForms d n m ++ vsubForms d n m ++ vmulForms d n m ++ vmaxForms d n m ++
        vminForms d n m ++ vabdForms d n m ++ vhaddForms d n m ++ vhsubForms d n m ++ vshlForms d n m ++
        vrshlForms d n m ++ vmullbForms d n m ++ vmulltForms d n m ++ vcadd90Forms d n m ++
        vcadd270Forms d n m).map Prod.fst ∨ i ∈ (dualAccForms n m).map Prod.fst ∨
        i ∈ (roundDualForms n m).map Prod.fst ∨ i ∈ (vaddvForms m).map Prod.fst ∨ i ∈ (loadForms d).map Prod.fst ∨
        i ∈ (storeForms d).map Prod.fst ∨ i ∈ [.vand d n m, .vbic d n m, .vorr d n m, .vorn d n m, .veor d n m]) →
      exec i s = .next t → statusQC t.status = statusQC s.status

/-- For every operation outside the carry family and other than MSR STATUS, exec leaves every bit of STATUS but QC as it
was. (R43, R44) -/
def Obligations.ConditionFlagsChangeOnlyByCarryFamilyAndMsr : Prop :=
  ∀ (i : Instr) (s t : State), (∀ d n m, i ∉ carryFamily d n m) → i ≠ .msrStatus → exec i s = .next t →
    ∀ b, b ≠ 27 → t.status.getLsbD b = s.status.getLsbD b

/-- A step that answers a next state leaves LOOPCOUNT and LTPSIZE as they were, unless it took a reset event or a
transaction whose descriptor is MSR LOOPCOUNT or MSR LTPSIZE, each of which writes the one it names only. No step
changes the implementation parameters: that they are fixed is R10's, that they stand in the state is the model's
choice (log 9). (R10, R37, R38, R126) -/
def Obligations.LoopProgressIsWrittenOnlyByMsrAndReset : Prop :=
  ∀ s t : State, step s = .next t →
    t.cfg = s.cfg ∧
    (t.loopcount = s.loopcount ∨ (∃ draw rest, s.inputs = .reset draw :: rest) ∨
      ∃ tx rest, s.inputs = .transaction tx :: rest ∧ decode tx.desc = .ok .msrLoopcount) ∧
    (t.ltpsize = s.ltpsize ∨ (∃ draw rest, s.inputs = .reset draw :: rest) ∨
      ∃ tx rest, s.inputs = .transaction tx :: rest ∧ decode tx.desc = .ok .msrLtpsize)

/-- Bit b of the resolved mask is 1 exactly when P0[b] is 1 or the mask field of its half is 0, and tail predication is
inactive or b is below LOOPCOUNT << LTPSIZE, and the execute mask of ECI has bit b. (R110) -/
def Obligations.ResolvedMaskBitByBit : Prop :=
  ∀ (s : State) (e : Mask) (b : Nat), eciExecMask s.eci = some e → b < 16 →
    ((s.resolve e).getLsbD b = true ↔
      (s.vpr.getLsbD b = true ∨ (if b < 8 then s.vpr.extractLsb' 16 4 = 0#4 else s.vpr.extractLsb' 20 4 = 0#4)) ∧
      (4 ≤ s.ltpsize.toNat ∨ 16 / 2 ^ s.ltpsize.toNat < s.loopcount.toNat ∨
        b < s.loopcount.toNat * 2 ^ s.ltpsize.toNat) ∧
      e.getLsbD b = true)

/-- The execute masks of NONE, A0, A0A1, A0A1A2 and A0A1A2B0 are 0xFFFF, 0xFFF0, 0xFF00, 0xF000 and 0xF000, and the
reserved values 3, 6 and 7 have none. (R113) -/
def Obligations.EciExecuteMaskTable : Prop :=
  eciExecMask 0 = some 0xFFFF#16 ∧ eciExecMask 1 = some 0xFFF0#16 ∧ eciExecMask 2 = some 0xFF00#16 ∧
    eciExecMask 4 = some 0xF000#16 ∧ eciExecMask 5 = some 0xF000#16 ∧
    ∀ eci, eciExecMask eci = none ↔ EciReserved eci

/-- With both mask fields 0, VPR is unchanged. Otherwise P0[b] is inverted exactly when its half's mask field is greater
than 8 and (without gating, or) the operation executed byte b; MASK23 shifts left by one; MASK01 shifts left by one
unless gating is on and no byte of beat 1 was executed; VPR[31:24] is 0. (R121) -/
def Obligations.AdvanceVprInvertsAndShifts : Prop :=
  ∀ (gating : Bool) (e : Mask) (v : Word),
    (vprMask01 v = 0 ∧ vprMask23 v = 0 → advanceVpr gating e v = v) ∧
    (¬ (vprMask01 v = 0 ∧ vprMask23 v = 0) →
      (∀ b, b < 16 → (advanceVpr gating e v).getLsbD b =
        ((v.getLsbD b).xor ((!gating || e.getLsbD b) &&
          (if b < 8 then decide (8 < (vprMask01 v).toNat) else decide (8 < (vprMask23 v).toNat))))) ∧
      ((gating = false ∨ ∃ b, 4 ≤ b ∧ b < 8 ∧ e.getLsbD b = true) →
        vprMask01 (advanceVpr gating e v) = vprMask01 v <<< 1) ∧
      (¬ (gating = false ∨ ∃ b, 4 ≤ b ∧ b < 8 ∧ e.getLsbD b = true) →
        vprMask01 (advanceVpr gating e v) = vprMask01 v) ∧
      vprMask23 (advanceVpr gating e v) = vprMask23 v <<< 1 ∧
      (advanceVpr gating e v).extractLsb' 24 8 = 0#8)

/-- Every operation but MSR and MRS, started with a legal ECI, answers a next state: either it is DONE, ECI goes from
A0A1A2B0 to A0 and from everything else to NONE, and VPR is advanced once; or it is a memory fault, RES has no
value, and VPR, ECI and STATUS are as before. Either way LOOPCOUNT, LTPSIZE, HALTED, the ports, the oracle, the
parameters and the pending events are unchanged. (R120) -/
def Obligations.VectorOperationAdvancesExactlyWhenItCompletes : Prop :=
  ∀ (i : Instr) (s : State) (e : Mask), i ∉ stateAccess → eciExecMask s.eci = some e →
    ∃ t, exec i s = .next t ∧ KeepsRest s t ∧
      ((t.outcome = some .done ∧ Advances s t e) ∨
        ((∃ info, t.outcome = some (.memoryFault info)) ∧ t.res = none ∧ KeepsPredicates s t ∧ t.status = s.status))

/-- Every operation but MSR and MRS, started with ECI 3, 6 or 7, leaves Q, VPR, LOOPCOUNT, LTPSIZE, ECI, STATUS and
memory as they were, issues no request, sets HALTED, and answers OUTCOME = ICV with no RES; from that state no
transaction has a step. MSR ECI stores a reserved value and MRS ECI reads it back without the check. (R40, R252) -/
def Obligations.ReservedEciRaisesConsistencyViolation : Prop :=
  (∀ (i : Instr) (s : State), i ∉ stateAccess → EciReserved s.eci →
      exec i s = .next { s with halted := true, outcome := some .icv, res := none } ∧
      ∀ tx rest u, step { s with
        halted := true, outcome := some .icv, res := none, inputs := .transaction tx :: rest } ≠ .next u) ∧
    (∀ s : State, EciReserved (s.ports.scalar.extractLsb' 0 3) →
      exec .msrEci s =
        .next { s with eci := s.ports.scalar.extractLsb' 0 3, outcome := some .done, res := none }) ∧
    (∀ s : State, EciReserved s.eci →
      exec .mrsEci s = .next { s with outcome := some .done, res := some (s.eci.setWidth 64) })

/-- With ECI = NONE, tail predication inactive (LTPSIZE of 4 or more, or LOOPCOUNT above 16 >> LTPSIZE) and MASK01 and
MASK23 both greater than 8, after any vector operation that completes the next one's resolved mask is the complement
of this one's: a then and else pair writes every byte exactly once. (R36, R110, R112, R121, R127) -/
def Obligations.ThenElseMasksAreComplementary : Prop :=
  ∀ (i : Instr) (s t : State), i ∉ stateAccess → s.eci = 0#3 → TailInactive s →
    8 < (vprMask01 s.vpr).toNat → 8 < (vprMask23 s.vpr).toNat → exec i s = .next t → t.outcome = some .done →
    eciExecMask t.eci = some 0xFFFF#16 ∧ t.resolve 0xFFFF#16 = ~~~ (s.resolve 0xFFFF#16)

/-- Byte b of Merge(old, new, K) is new's where K[b] is 1 and old's where it is 0; at every lane width 8, 16, 32 and 64
a lane is (old AND NOT Expand_k(p)) OR (new AND Expand_k(p)); a lane whose predicate bits are all 0 is unchanged; K
= 0xFFFF overwrites and K = 0 does nothing. (R118) -/
def Obligations.MergeIdentities : Prop :=
  ∀ (old new : QWord) (k : Mask),
    (∀ b, b < 16 → byteAt (merge old new k) b = if k.getLsbD b then byteAt new b else byteAt old b) ∧
    (∀ w ∈ [8, 16, 32, 64], ∀ e, e < lanes w →
      elem (merge old new k) e w = mergeLane k e w (elem old e w) (elem new e w) ∧
      (lanePredicate k e w = 0 → elem (merge old new k) e w = elem old e w)) ∧
    merge old new 0xFFFF = new ∧ merge old new 0 = old

/-- For lanes of 1, 2, 4 and 8 bytes, byte i of Expand_k(p) is 0xFF when p[i] is 1 and 0x00 when it is 0. (R116) -/
def Obligations.ExpansionTableExpandsEachPredicateBit : Prop :=
  ∀ k ∈ [1, 2, 4, 8], ∀ (p : BitVec k) (i : Nat), i < k →
    (expand k p).extractLsb' (8 * i) 8 = if p.getLsbD i then 0xFF#8 else 0x00#8

/-- Sat(v, w, U) is (r, s) with r = lo if v < lo, hi if v > hi and v otherwise, lo and hi the signed or unsigned range
of w bits, and s true exactly when r differs from v. (R13) -/
def Obligations.SatClampsAndIndicates : Prop :=
  (∀ (v : Int) (w : Nat) (u : Bool), (sat v w u).1 = clamp w u v ∧ ((sat v w u).2 = true ↔ (sat v w u).1 ≠ v) ∧
      ((sat v w u).2 = true ↔ Overflows w u v)) ∧
    (∀ w, satLow w false = -2 ^ (w - 1) ∧ satHigh w false = 2 ^ (w - 1) - 1 ∧ satLow w true = 0 ∧
      satHigh w true = 2 ^ w - 1)

/-- The n-byte value read at an address is the sum of its bytes, byte i weighted 2^(8i) under LITTLE and 2^(8(n-1-i))
under BIG; that the bytes of one request wrap mod 2^32 is the model's inference (log 8). (R64) -/
def Obligations.MemoryPrimitiveByteOrder : Prop :=
  ∀ (mem : List Host.Cell) (a : Word) (n : Nat),
    readValue .little mem a n =
      ∑ i ∈ Finset.range n, (readByte mem (a + BitVec.ofNat 32 i).toNat).toNat * 2 ^ (8 * i) ∧
    readValue .big mem a n =
      ∑ i ∈ Finset.range n, (readByte mem (a + BitVec.ofNat 32 i).toNat).toNat * 2 ^ (8 * (n - 1 - i))

/-- Each of the five operations completes and writes Q[d] bit by bit, AND, AND NOT, OR, OR NOT or XOR of Q[n] and Q[m]
where the byte's mask bit is 1 and the old bit where it is 0; STATUS, every other register, memory and the rest are
unchanged but for the Advancer. Covers vand, vbic, vorr, vorn, veor. (R141, R142, R143, R144, R145) -/
def Obligations.BitwiseOperations : Prop :=
  ∀ (s : State) (e : Mask) (d n m : QReg), eciExecMask s.eci = some e →
    ∀ i f, (i, f) ∈ ([(.vand d n m, fun x y => x && y), (.vbic d n m, fun x y => x && !y),
        (.vorr d n m, fun x y => x || y), (.vorn d n m, fun x y => x || !y),
        (.veor d n m, fun x y => x.xor y)] : List (Instr × (Bool → Bool → Bool))) →
      ∃ t, exec i s = .next t ∧ WritesOnlyQ s t d e ∧ t.status = s.status ∧
        ∀ j, j < 128 → t.q[d].getLsbD j =
          if (s.resolve e).getLsbD (j / 8) then f (s.q[n].getLsbD j) (s.q[m].getLsbD j) else s.q[d].getLsbD j

/-- Every form of VADD, VSUB and VMUL completes and gives every lane the sum, difference or product mod 2^w, merged
under M, the second operand being Q[m] or SCALAR[w-1:0]; STATUS and everything else is unchanged but for the
Advancer. Covers the 18 constructors of vaddForms, vsubForms and vmulForms. (R151, R152, R153) -/
def Obligations.AddSubtractMultiplyWrapEveryLane : Prop :=
  WrapsLanes vaddForms (fun a b => a + b) ∧ WrapsLanes vsubForms (fun a b => a - b) ∧
    WrapsLanes vmulForms (fun a b => a * b)

/-- Every form of VMAX, VMIN and VABD completes and gives every lane the larger, the smaller or the distance of the two
operands read with the form's signedness, merged under M; STATUS and everything else is unchanged but for the
Advancer. Covers the 18 constructors of vmaxForms, vminForms and vabdForms. (R154, R155, R156) -/
def Obligations.MaximumMinimumAndDistance : Prop :=
  WrapsLanes vmaxForms (fun a b => max a b) ∧ WrapsLanes vminForms (fun a b => min a b) ∧
    WrapsLanes vabdForms (fun a b => |a - b|)

/-- Every form of VHADD and VHSUB completes and gives every lane the floor of half the sum or difference, merged under
M; STATUS and everything else is unchanged but for the Advancer. Covers the 24 constructors of vhaddForms and
vhsubForms. (R157, R158) -/
def Obligations.HalvingAddAndSubtractFloor : Prop :=
  WrapsLanes vhaddForms (fun a b => (a + b) / 2) ∧ WrapsLanes vhsubForms (fun a b => (a - b) / 2)

/-- Every form of VQADD and VQSUB completes and gives every lane the sum or difference clamped to the lane's range,
merged under M; QC is set exactly when it was or some lane whose lowest byte is active was clamped; everything else
is unchanged but for the Advancer. Covers the 24 constructors of vqaddForms and vqsubForms. (R159, R160) -/
def Obligations.SaturatingAddAndSubtractClamp : Prop :=
  SaturatesLanes vqaddForms (fun _ a b => a + b) ∧ SaturatesLanes vqsubForms (fun _ a b => a - b)

/-- Every form of VSHL and VRSHL completes and gives every lane the exact shift of the operand by the signed low byte of
the second operand, floor or rounded to the right and wrapping to the left, truncated and merged under M; STATUS and
everything else is unchanged but for the Advancer. Covers the 24 constructors of vshlForms and vrshlForms. Where the
U8 example lists of R171 and R172 differ from R170 in lane 15, the rule is followed (log 16). (R170, R171, R172) -/
def Obligations.WrappingShiftsByRegister : Prop :=
  ∀ (s : State) (e : Mask) (d n m : QReg), eciExecMask s.eci = some e →
    ∀ i w u src round, ((i, w, u, src) ∈ vshlForms d n m ∧ round = false) ∨
        ((i, w, u, src) ∈ vrshlForms d n m ∧ round = true) →
      ∃ t, exec i s = .next t ∧ WritesOnlyQ s t d e ∧ t.status = s.status ∧
        LanesMerged s t d (s.resolve e) w.bits fun k =>
          trunc w.bits (shifted round (intOf u (s.lane n k w.bits)) ((s.lane2 src k w.bits).setWidth 8).toInt)

/-- Every form of VQSHL and VQRSHL completes and gives every lane the exact shift of the operand by the signed low byte
of the second operand, floor or rounded to the right, clamped to the lane's range when the shift is to the left,
merged under M; QC is set exactly when it was or some lane whose lowest byte is active shifted left out of range;
everything else is unchanged but for the Advancer. Covers the 24 constructors of vqshlForms and vqrshlForms (log 16
on the U8 example lists). (R170, R173, R174) -/
def Obligations.SaturatingShiftsByRegister : Prop :=
  ∀ (s : State) (e : Mask) (d n m : QReg), eciExecMask s.eci = some e →
    ∀ i w u src round, ((i, w, u, src) ∈ vqshlForms d n m ∧ round = false) ∨
        ((i, w, u, src) ∈ vqrshlForms d n m ∧ round = true) →
      let amount := fun k => ((s.lane2 src k w.bits).setWidth 8).toInt
      let exact := fun k => shifted round (intOf u (s.lane n k w.bits)) (amount k)
      ∃ t, exec i s = .next t ∧ WritesOnlyQ s t d e ∧
        LatchesQC s t (∃ k, k < lanes w.bits ∧ active (s.resolve e) k w.bits = true ∧ 0 ≤ amount k ∧
          Overflows w.bits u (exact k)) ∧
        LanesMerged s t d (s.resolve e) w.bits fun k =>
          trunc w.bits (if 0 ≤ amount k then clamp w.bits u (exact k) else exact k)

/-- Every form of VMULLB and VMULLT completes and gives output lane k of width 2w the product of input lanes 2k (bottom)
or 2k+1 (top), merged under M as a vector of 2w-bit lanes, and the product is exact in 2w bits; STATUS and
everything else is unchanged but for the Advancer. Covers the 12 constructors of vmullbForms and vmulltForms. (R175,
R176, R177) -/
def Obligations.WideningMultiplyIsExact : Prop :=
  ∀ (s : State) (e : Mask) (d n m : QReg), eciExecMask s.eci = some e →
    ∀ i w u src top, ((i, w, u, src) ∈ vmullbForms d n m ∧ top = 0) ∨ ((i, w, u, src) ∈ vmulltForms d n m ∧ top = 1) →
      let product := fun k => intOf u (s.lane n (2 * k + top) w.bits) * intOf u (s.lane m (2 * k + top) w.bits)
      (∀ k, intOf u (trunc (2 * w.bits) (product k)) = product k) ∧
      ∃ t, exec i s = .next t ∧ WritesOnlyQ s t d e ∧ t.status = s.status ∧
        LanesMerged s t d (s.resolve e) (2 * w.bits) fun k => trunc (2 * w.bits) (product k)

/-- Every form completes and gives every lane floor((2ab + bias) / 2^w) clamped to the signed range, bias 0 for VQDMULH
and 2^(w-1) for VQRDMULH, merged under M; QC is set exactly when it was or some lane whose lowest byte is active was
clamped; everything else is unchanged but for the Advancer. Covers the 12 constructors of vqdmulhForms and
vqrdmulhForms. (R179, R180) -/
def Obligations.DoublingMultiplyHighSaturates : Prop :=
  SaturatesLanes vqdmulhForms (fun w a b => 2 * a * b / 2 ^ w) ∧
    SaturatesLanes vqrdmulhForms (fun w a b => (2 * a * b + 2 ^ (w - 1)) / 2 ^ w)

/-- Every form of VCADD completes and gives each even lane a[k] - b[k+1] (90) or a[k] + b[k+1] (270) and each odd lane
a[k] + b[k-1] (90) or a[k] - b[k-1] (270), from the operands as they were before the operation whatever registers
coincide, mod 2^w, merged under M; STATUS and everything else is unchanged but for the Advancer. Covers the 6
constructors of vcadd90Forms and vcadd270Forms. (R191, R192) -/
def Obligations.ComplexRotateAdd : Prop :=
  ∀ (s : State) (e : Mask) (d n m : QReg), eciExecMask s.eci = some e →
    ∀ i w u src sign, ((i, w, u, src) ∈ vcadd90Forms d n m ∧ sign = (1 : Int)) ∨
        ((i, w, u, src) ∈ vcadd270Forms d n m ∧ sign = -1) →
      ∃ t, exec i s = .next t ∧ WritesOnlyQ s t d e ∧ t.status = s.status ∧
        LanesMerged s t d (s.resolve e) w.bits fun k => trunc w.bits
          (if k % 2 = 0 then (s.lane n k w.bits).toInt - sign * (s.lane m (k + 1) w.bits).toInt
            else (s.lane n k w.bits).toInt + sign * (s.lane m (k - 1) w.bits).toInt)

/-- Every form completes; the produced lanes (even without exchange, odd with it) take floor((2(ab ± cd) + bias) / 2^w)
clamped to the signed range and merged under M, with (a, b, c, d) = (n[k], m[k], n[k+1], m[k+1]) or with exchange
(n[k], m[k-1], n[k-1], m[k]); the other lanes are not written; QC is set exactly when it was or a produced lane
whose lowest byte is active was clamped; everything else is unchanged but for the Advancer. Covers the 24
constructors of dualHighForms. (R195, R196, R197, R198, R199, R200, R201, R202) -/
def Obligations.DualMultiplyHighWritesAlternateLanes : Prop :=
  ∀ (s : State) (e : Mask) (d n m : QReg), eciExecMask s.eci = some e →
    ∀ i w exchange sub round, (i, w, exchange, sub, round) ∈ dualHighForms d n m →
      let a := fun k => (s.lane n k w.bits).toInt
      let b := fun k => (s.lane m k w.bits).toInt
      let first := fun k => if exchange then a k * b (k - 1) else a k * b k
      let second := fun k => if exchange then a (k - 1) * b k else a (k + 1) * b (k + 1)
      let half := fun k => if sub then first k - second k else first k + second k
      let exact := fun k => (2 * half k + if round then 2 ^ (w.bits - 1) else 0) / 2 ^ w.bits
      let made := fun k => k % 2 = if exchange then 1 else 0
      ∃ t, exec i s = .next t ∧ WritesOnlyQ s t d e ∧
        LatchesQC s t (∃ k, k < lanes w.bits ∧ made k ∧ active (s.resolve e) k w.bits = true ∧
          Overflows w.bits false (exact k)) ∧
        (∀ k, k < lanes w.bits → made k → elem t.q[d] k w.bits =
          mergeLane (s.resolve e) k w.bits (elem s.q[d] k w.bits) (trunc w.bits (clamp w.bits false (exact k)))) ∧
        (∀ k, k < lanes w.bits → ¬ made k → elem t.q[d] k w.bits = elem s.q[d] k w.bits)

/-- Each completes and threads a carry through the four 32-bit lanes, from STATUS.C (VADC, VSBC), 0 (VADCI) or 1
(VSBCI), the second operand inverted in the subtract forms; each lane is the low 32 bits of its sum, merged under M,
and its carry is passed on only where the lane is active; VADCI and VSBCI always write the flags, VADC and VSBC only
when M AND 0x1111 is not 0, C taking the last carry and N, Z and V 0. Covers vadcI32, vadciI32, vsbcI32, vsbciI32.
(R205, R206, R207, R208) -/
def Obligations.CarryChainThreadsActiveLanes : Prop :=
  ∀ (s : State) (e : Mask) (d n m : QReg), eciExecMask s.eci = some e →
    ChainsCarries s (.vadcI32 d n m) d n m e (statusC s.status) 0#32 False ∧
    ChainsCarries s (.vadciI32 d n m) d n m e false 0#32 True ∧
    ChainsCarries s (.vsbcI32 d n m) d n m e (statusC s.status) 0xFFFFFFFF#32 False ∧
    ChainsCarries s (.vsbciI32 d n m) d n m e true 0xFFFFFFFF#32 True

/-- When every lane is active, VADCI gives Q[n] + Q[m] mod 2^128 with C the carry out of bit 127, VADC adds C, VSBCI
gives Q[n] - Q[m] mod 2^128 with C = 1 exactly when there is no borrow, and VSBC subtracts 1 - C besides. (R203,
R205, R206, R207, R208) -/
def Obligations.CarryFamilyIsA128BitAdder : Prop :=
  ∀ (s : State) (d n m : QReg), s.eci = 0#3 → s.resolve 0xFFFF#16 = 0xFFFF#16 →
    let a := s.q[n].toNat
    let b := s.q[m].toNat
    let c := (statusC s.status).toNat
    (∃ t, exec (.vadciI32 d n m) s = .next t ∧ t.q[d].toNat = (a + b) % 2 ^ 128 ∧
      statusC t.status = decide (2 ^ 128 ≤ a + b)) ∧
    (∃ t, exec (.vadcI32 d n m) s = .next t ∧ t.q[d].toNat = (a + b + c) % 2 ^ 128 ∧
      statusC t.status = decide (2 ^ 128 ≤ a + b + c)) ∧
    (∃ t, exec (.vsbciI32 d n m) s = .next t ∧ t.q[d] = s.q[n] - s.q[m] ∧ statusC t.status = decide (b ≤ a)) ∧
    (∃ t, exec (.vsbcI32 d n m) s = .next t ∧ t.q[d] = s.q[n] - s.q[m] - BitVec.ofNat 128 (1 - c) ∧
      statusC t.status = decide (b + (1 - c) ≤ a))

/-- Every form completes with RES = ACC_IN plus the sum over the active lanes k of n[k XOR X] * m[k], the odd lanes'
products subtracted in the subtract forms, mod 2^64; no register, flag or byte of memory changes, and only the
Advancer acts besides. Covers the 15 constructors of dualAccForms. (R212, R213, R214, R215) -/
def Obligations.DualAccumulateSumsActiveProducts : Prop :=
  ∀ (s : State) (e : Mask) (n m : QReg), eciExecMask s.eci = some e →
    ∀ i w x sub u, (i, w, x, sub, u) ∈ dualAccForms n m →
      ∃ t, exec i s = .next t ∧ Reduces s t e (trunc 64
        (s.ports.accIn.toNat + activeSum (s.resolve e) w.bits (dualTerm s n m w x sub u)))

/-- Every form completes with RES = the exact value floor((ACC_IN * 2^8 + the sum over the active lanes of the product,
subtracted in odd lanes of the subtract forms, plus 2^7) / 2^8) mod 2^64; no register, flag or byte of memory
changes, and only the Advancer acts besides. Covers the 5 constructors of roundDualForms. (R217, R218, R219, R220) -/
def Obligations.RoundingDualAccumulateIsExtended : Prop :=
  ∀ (s : State) (e : Mask) (n m : QReg), eciExecMask s.eci = some e →
    ∀ i x sub u, (i, x, sub, u) ∈ roundDualForms n m →
      ∃ t, exec i s = .next t ∧ Reduces s t e (trunc 64
        ((s.ports.accIn.toNat * 2 ^ 8 +
          activeSum (s.resolve e) 32 (fun k => dualTerm s n m .w32 x sub u k + 2 ^ 7)) / 2 ^ 8))

/-- Every form completes with RES = ACC_IN plus the sum of the active lanes of Q[m], sign- or zero-extended, mod 2^64;
no register, flag or byte of memory changes, and only the Advancer acts besides. Covers the 6 constructors of
vaddvForms. (R221) -/
def Obligations.VectorSumAddsActiveLanes : Prop :=
  ∀ (s : State) (e : Mask) (m : QReg), eciExecMask s.eci = some e →
    ∀ i w u, (i, w, u) ∈ vaddvForms m →
      ∃ t, exec i s = .next t ∧ Reduces s t e (trunc 64
        (s.ports.accIn.toNat + activeSum (s.resolve e) w.bits fun k => intOf u (s.lane m k w.bits)))

/-- For every reduction, the rounding forms included, another register file that agrees with this one on the active
lanes of Q[m] and, in the dual forms, on the lanes k XOR X of Q[n] for the active lanes k gives the same RES: no
other lane of Q[m] or Q[n] and no other register reaches it. With exchange a lane of Q[n] that is itself inactive
does reach RES when its partner is active. Covers the constructors of dualAccForms, roundDualForms and vaddvForms.
(R210, R211, R216) -/
def Obligations.ReductionResultReadsOnlyActiveLanesOperands : Prop :=
  ∀ (s : State) (e : Mask) (n m : QReg) (q : Vector QWord 8), eciExecMask s.eci = some e →
    let t := { s with q := q }
    let agree := fun (r : QReg) (x : Nat) (w : Width) => ∀ k, k < lanes w.bits →
      active (s.resolve e) k w.bits = true → t.lane r (k ^^^ x) w.bits = s.lane r (k ^^^ x) w.bits
    (∀ i w u, (i, w, u) ∈ vaddvForms m → agree m 0 w → SameResult i s t) ∧
    (∀ i w x sub u, (i, w, x, sub, u) ∈ dualAccForms n m → agree m 0 w → agree n x w → SameResult i s t) ∧
    (∀ i x sub u, (i, x, sub, u) ∈ roundDualForms n m → agree m 0 .w32 → agree n x .w32 → SameResult i s t)

/-- For VMLADAV, VMLSDAV and their exchanging forms and VADDV, RES[31:0] is the 32-bit wrapping result: ACC_IN[31:0]
plus the sum of the active lanes' terms, mod 2^32, whatever ACC_IN[63:32] holds (a zero-extended or a sign-extended
seed). Covers the constructors of dualAccForms and vaddvForms. (R222) -/
def Obligations.LowHalfOfResultIsThe32BitSum : Prop :=
  ∀ (s : State) (e : Mask) (n m : QReg), eciExecMask s.eci = some e →
    let seed := (s.ports.accIn.setWidth 32).toNat
    (∀ i w x sub u, (i, w, x, sub, u) ∈ dualAccForms n m →
      ∃ t r, exec i s = .next t ∧ t.res = some r ∧
        r.setWidth 32 = trunc 32 (seed + activeSum (s.resolve e) w.bits (dualTerm s n m w x sub u))) ∧
    (∀ i w u, (i, w, u) ∈ vaddvForms m →
      ∃ t r, exec i s = .next t ∧ t.res = some r ∧
        r.setWidth 32 =
          trunc 32 (seed + activeSum (s.resolve e) w.bits fun k => intOf u (s.lane m k w.bits)))

/-- When no active element's request faults, every form of VLDR completes; each executed active lane takes its memory
element, zero- or sign-extended, merged under M (PRESERVE) or whole (ZERO); each executed inactive lane is kept
(PRESERVE) or 0 (ZERO); a lane of a beat that ECI skips is kept; the requests are exactly those of the active
elements in ascending order, with FAULT_PC; STATUS, memory and the other registers are unchanged. That an element's
value is what memory held when the transaction began is log 11, and that the bytes of one request wrap past 2^32 is
log 8. Covers the 9 constructors of loadForms. (R233) -/
def Obligations.LoadFillsActiveLanes : Prop :=
  ∀ (s : State) (e : Mask) (d : QReg), eciExecMask s.eci = some e →
    ∀ i w ms u, (i, w, ms, u) ∈ loadForms d →
      (∀ k, k < lanes w.bits → active (s.resolve e) k w.bits = true → s.elementFault ms .read k = none) →
      ∃ t, exec i s = .next t ∧ Completes s t e none ∧ KeepsQExcept s t d ∧ KeepsMemory s t ∧ t.status = s.status ∧
        (∀ k, k < lanes w.bits → elem t.q[d] k w.bits = loadedValue s d (s.resolve e) e w ms u k) ∧
        t.requests = s.requests ++ loadRequests s (s.resolve e) w ms (lanes w.bits)

/-- When element k is active and its request faults and no earlier active element's does, every form of VLDR ends with
OUTCOME = MEMORY_FAULT carrying address, size, READ, k, FAULT_PC and the cause; the lanes below k are as loaded and
the lanes from k on unchanged; VPR, ECI, LOOPCOUNT, LTPSIZE and STATUS are as before, RES has no value, and no
request follows the faulting one. That the faulting request is itself listed, as the last, is log 13; the loaded
values rest on log 11 (plain storage) and log 8 (the bytes of one request wrap past 2^32). Covers the 9 constructors
of loadForms. (R231, R232, R254) -/
def Obligations.FaultingLoadCommitsEarlierElements : Prop :=
  ∀ (s : State) (e : Mask) (d : QReg), eciExecMask s.eci = some e →
    ∀ i w ms u, (i, w, ms, u) ∈ loadForms d → ∀ k cause, k < lanes w.bits →
      active (s.resolve e) k w.bits = true → s.elementFault ms .read k = some cause →
      (∀ j, j < k → active (s.resolve e) j w.bits = true → s.elementFault ms .read j = none) →
      ∃ t, exec i s = .next t ∧
        t.outcome = some (.memoryFault ⟨s.elementAddress ms k, ms, .read, k, s.ports.faultPc, cause⟩) ∧
        t.res = none ∧ KeepsPredicates s t ∧ KeepsRest s t ∧ t.status = s.status ∧ KeepsQExcept s t d ∧
        KeepsMemory s t ∧
        (∀ j, j < lanes w.bits → elem t.q[d] j w.bits =
          if j < k then loadedValue s d (s.resolve e) e w ms u j else s.lane d j w.bits) ∧
        t.requests = s.requests ++ loadRequests s (s.resolve e) w ms (k + 1)

/-- When memory is in its canonical form and no active element's request faults, every form of VSTR completes; each
active element stores its low msize bytes at ADDR + k * msize mod 2^32 in the byte order of MEM_ENDIAN, and every
other address reads as before; the requests are exactly those of the active elements in ascending order; no register
and no flag changes. That memory is plain storage is log 11, and that the bytes of one request wrap past 2^32 is log
8. Covers the 6 constructors of storeForms. (R234) -/
def Obligations.StoreWritesActiveElements : Prop :=
  ∀ (s : State) (e : Mask) (d : QReg), eciExecMask s.eci = some e → memWf s.mem = true →
    ∀ i w ms, (i, w, ms) ∈ storeForms d →
      (∀ k, k < lanes w.bits → active (s.resolve e) k w.bits = true → s.elementFault ms .write k = none) →
      ∃ t, exec i s = .next t ∧ Completes s t e none ∧ KeepsQ s t ∧ t.status = s.status ∧
        StoresElements s t d (s.resolve e) w ms (lanes w.bits) ∧
        t.requests = s.requests ++ storeRequests s d (s.resolve e) w ms (lanes w.bits)

/-- When memory is in its canonical form, element k is active and its request faults and no earlier active element's
does, every form of VSTR ends with OUTCOME = MEMORY_FAULT carrying address, size, WRITE, k, FAULT_PC and the cause;
exactly the active elements below k are stored; every register, VPR, ECI, LOOPCOUNT, LTPSIZE and STATUS are as
before, RES has no value, and no request follows the faulting one. That the faulting request is itself listed, as
the last, is log 13; the stored bytes rest on log 11 (plain storage) and log 8 (the bytes of one request wrap past
2^32). Covers the 6 constructors of storeForms. (R231, R232, R254) -/
def Obligations.FaultingStoreCommitsEarlierElements : Prop :=
  ∀ (s : State) (e : Mask) (d : QReg), eciExecMask s.eci = some e → memWf s.mem = true →
    ∀ i w ms, (i, w, ms) ∈ storeForms d → ∀ k cause, k < lanes w.bits →
      active (s.resolve e) k w.bits = true → s.elementFault ms .write k = some cause →
      (∀ j, j < k → active (s.resolve e) j w.bits = true → s.elementFault ms .write j = none) →
      ∃ t, exec i s = .next t ∧
        t.outcome = some (.memoryFault ⟨s.elementAddress ms k, ms, .write, k, s.ports.faultPc, cause⟩) ∧
        t.res = none ∧ KeepsPredicates s t ∧ KeepsRest s t ∧ t.status = s.status ∧ KeepsQ s t ∧
        StoresElements s t d (s.resolve e) w ms k ∧
        t.requests = s.requests ++ storeRequests s d (s.resolve e) w ms (k + 1)

/-- With memory in its canonical form, no predication, tail predication inactive (LTPSIZE of 4 or more, or LOOPCOUNT
above 16 >> LTPSIZE), ECI = NONE and no faulting request, a same-size VSTR followed by the same-size VLDR with the
same ports gives the loaded register the stored register's value, at every address (wrapping past 0xFFFFFFFF
included), in either byte order and with either load parameter. That a load returns the bytes the store left is log
11 (plain storage), and that the bytes of one request wrap is log 8. (R64, R70, R112, R233, R234) -/
def Obligations.LoadReturnsTheStoredRegister : Prop :=
  ∀ (s : State) (d d' : QReg) (store load : Instr),
    (store, load) ∈ ([(.vstrb8 d, .vldrb8 d'), (.vstrh16 d, .vldrh16 d'), (.vstrw32 d, .vldrw32 d')] :
      List (Instr × Instr)) →
    memWf s.mem = true → s.eci = 0#3 → TailInactive s → vprMask01 s.vpr = 0 → vprMask23 s.vpr = 0 →
    s.memFaults = [] →
    ∃ t u, exec store s = .next t ∧ exec load t = .next u ∧ u.q[d'] = s.q[d]

/-- If VLDRW.32 started with ECI = NONE faults at element k = 1, 2 or 3, and it is presented again on the state it left
with the fault gone and ECI set to the k beats committed, every vector register and memory end as they would have
without the fault, under any predicate, tail and load parameter. That memory is plain storage, the same at the
second presentation, is log 11. (R232, R235, R236, R260) -/
def Obligations.ResumedLoadEqualsUninterruptedLoad : Prop :=
  ∀ (s t u v : State) (d : QReg) (info : MemFaultInfo) (code : BitVec 3),
    s.eci = 0#3 → exec (.vldrw32 d) s = .next t → t.outcome = some (.memoryFault info) →
    (info.element, code) ∈ [(1, 1#3), (2, 2#3), (3, 4#3)] →
    exec (.vldrw32 d) { s with memFaults := [] } = .next u →
    exec (.vldrw32 d) { t with memFaults := [], eci := code } = .next v →
    v.q = u.q ∧ v.mem = u.mem ∧ v.status = u.status

/-- MSR VPR writes SCALAR AND 0x00FFFFFF, MSR STATUS writes SCALAR AND 0xF8000000, MSR LOOPCOUNT writes SCALAR, MSR
LTPSIZE and MSR ECI write SCALAR[2:0] (reserved ECI values included); OUTCOME is DONE, RES has no value, and nothing
else changes. Covers msrVpr, msrStatus, msrLoopcount, msrLtpsize, msrEci. (R241, R243, R245, R247, R249) -/
def Obligations.MsrWritesTheNamedRegister : Prop :=
  ∀ s : State,
    exec .msrVpr s = .next { s with vpr := s.ports.scalar &&& 0x00FFFFFF#32, outcome := some .done, res := none } ∧
    exec .msrStatus s =
      .next { s with status := s.ports.scalar &&& 0xF8000000#32, outcome := some .done, res := none } ∧
    exec .msrLoopcount s = .next { s with loopcount := s.ports.scalar, outcome := some .done, res := none } ∧
    exec .msrLtpsize s =
      .next { s with ltpsize := s.ports.scalar.extractLsb' 0 3, outcome := some .done, res := none } ∧
    exec .msrEci s = .next { s with eci := s.ports.scalar.extractLsb' 0 3, outcome := some .done, res := none }

/-- MRS of VPR, STATUS, LOOPCOUNT, LTPSIZE and ECI completes with RES the register zero-extended to 64 bits, the bits a
register does not implement reading 0, and changes nothing but OUTCOME and RES. Covers mrsVpr, mrsStatus,
mrsLoopcount, mrsLtpsize, mrsEci. (R242, R244, R246, R248, R250) -/
def Obligations.MrsReadsTheNamedRegister : Prop :=
  ∀ s : State, ∀ i r, (i, r) ∈ mrsForms → ∃ x : DWord,
    exec i s = .next { s with outcome := some .done, res := some x } ∧
    match r with
    | .vpr => x.extractLsb' 0 24 = s.vpr.extractLsb' 0 24 ∧ x.extractLsb' 24 40 = 0
    | .status => x.extractLsb' 27 5 = s.status.extractLsb' 27 5 ∧ x.extractLsb' 0 27 = 0 ∧ x.extractLsb' 32 32 = 0
    | .loopcount => x.toNat = s.loopcount.toNat
    | .ltpsize => x.toNat = s.ltpsize.toNat
    | .eci => x.toNat = s.eci.toNat

/-- OUTCOME is reported with code 0 for DONE, 1 for MEMORY_FAULT, 2 for ICV and 3 for ILLEGAL. Every transaction that
has a step ends with one of these codes, and RES carries a value exactly when the code is 0 and the descriptor is
that of a reduction or an MRS. That transactions wait in a queue is log 1, and that RES is emptied by every other
transaction is log 12. (R255) -/
def Obligations.TransactionsReportTheirOutcomeCode : Prop :=
  (TxOutcome.done.code = 0 ∧ (∀ info, (TxOutcome.memoryFault info).code = 1) ∧ TxOutcome.icv.code = 2 ∧
      TxOutcome.illegal.code = 3) ∧
    ∀ (s t : State) (tx : Transaction) (rest : List Input), s.inputs = .transaction tx :: rest → step s = .next t →
      ∃ code, t.outcomeCode = some code ∧ code < 4 ∧
        (t.res.isSome = true ↔ code = 0 ∧ ∃ i, decode tx.desc = .ok i ∧ GivesResult i)
end

