-- ==== Sys2Proof/Laws/Flags.lean ====
section
/-! SUPPORT. What the QC latch, the flag write and the status step of an operation do to each bit of STATUS, and what
the Advancer's VPR update keeps (10_state.md R41 to R44; 40_predication.md R119, R121; 44_pair_carry.md R204). -/

namespace Sys2Proof.Machine

/-! ## Bits of STATUS -/

/-- The latch changes bit 27 only, and only sets it. -/
theorem getLsbD_latchQC (q : Bool) (st : Word) (i : Nat) :
    (latchQC q st).getLsbD i = (st.getLsbD i || (q && decide (i = 27))) := by
  cases q with
  | false => simp [latchQC]
  | true =>
    have h : (0x08000000#32).getLsbD i = decide (i = 27) := by
      have h27 : (0x08000000#32) = BitVec.ofNat 32 (2 ^ 27) := rfl
      rw [h27, BitVec.getLsbD_ofNat, Nat.testBit_two_pow, Bool.eq_iff_iff]
      simp
      omega
    simp only [latchQC, if_true, BitVec.getLsbD_or, h, Bool.true_and]

/-- A flag write sets C, clears N, Z and V, and leaves the bits below 28 as they were. -/
theorem getLsbD_flagWrite (c : Bool) (st : Word) (i : Nat) :
    (flagWrite c st).getLsbD i = if i < 28 then st.getLsbD i else (c && decide (i = 29)) := by
  have h1 : (0x0FFFFFFF#32).getLsbD i = decide (i < 28) := by
    have h : (0x0FFFFFFF#32) = BitVec.ofNat 32 (2 ^ 28 - 1) := rfl
    rw [h, BitVec.getLsbD_ofNat, Nat.testBit_two_pow_sub_one, Bool.eq_iff_iff]
    simp
    omega
  have h2 : (0x20000000#32).getLsbD i = decide (i = 29) := by
    have h : (0x20000000#32) = BitVec.ofNat 32 (2 ^ 29) := rfl
    rw [h, BitVec.getLsbD_ofNat, Nat.testBit_two_pow, Bool.eq_iff_iff]
    simp
    omega
  cases c <;> simp only [flagWrite, BitVec.getLsbD_or, BitVec.getLsbD_and, h1, if_true, if_false, h2,
    BitVec.getLsbD_zero, Bool.or_false, Bool.false_and, Bool.true_and, Bool.false_eq_true]
  · split <;> simp_all
  · by_cases hi : i < 28
    · have : i ≠ 29 := by omega
      simp [hi, this]
    · simp [hi]

/-- QC after the latch. -/
theorem statusQC_latchQC (q : Bool) (st : Word) : statusQC (latchQC q st) = (statusQC st || q) := by
  rw [statusQC, getLsbD_latchQC, statusQC]
  simp only [decide_true, Bool.and_true]

/-- An operation without a flag write changes QC only: it is set when an indicator stood in a byte of M AND WSEL. -/
theorem getLsbD_statusAfter_none {m : Mask} {x : Effects} (hc : x.carry = none) (st : Word) (i : Nat) :
    (statusAfter m x st).getLsbD i =
      (st.getLsbD i || (((x.sat &&& (m &&& x.wsel)) != 0) && decide (i = 27))) := by
  simp [statusAfter, hc, getLsbD_latchQC]

/-- An operation without indicators and without a flag write leaves STATUS as it was. -/
theorem statusAfter_plain {m : Mask} {x : Effects} (hc : x.carry = none) (hs : x.sat = 0) (st : Word) :
    statusAfter m x st = st := by
  simp [statusAfter, hc, hs, latchQC]

/-- A flag write without indicators. -/
theorem statusAfter_carry {m : Mask} {x : Effects} {c : Bool} (hc : x.carry = some c) (hs : x.sat = 0) (st : Word) :
    statusAfter m x st = flagWrite c st := by
  simp [statusAfter, hc, hs, latchQC]

/-- No operation's STATUS step clears QC (10_state.md R42). -/
theorem statusQC_statusAfter {m : Mask} {x : Effects} {st : Word} (h : statusQC st = true) :
    statusQC (statusAfter m x st) = true := by
  unfold statusAfter
  cases hc : x.carry with
  | none => simp [statusQC_latchQC, h]
  | some c =>
    show (flagWrite c _).getLsbD 27 = true
    rw [getLsbD_flagWrite, if_pos (by decide)]
    exact (statusQC_latchQC _ st).trans (by rw [h, Bool.true_or])

/-- The bits STATUS does not implement stay 0 (10_state.md R41). -/
theorem statusAfter_low {m : Mask} {x : Effects} {st : Word} (h : st.extractLsb' 0 27 = 0#27) :
    (statusAfter m x st).extractLsb' 0 27 = 0#27 := by
  have hbit : ∀ i, i < 27 → st.getLsbD i = false := by
    intro i hi
    have := congrArg (fun z => z.getLsbD i) h
    simpa [BitVec.getLsbD_extractLsb', hi] using this
  apply BitVec.eq_of_getLsbD_eq
  intro i hi
  have h27 : i ≠ 27 := by omega
  have h28 : i < 28 := by omega
  unfold statusAfter
  cases x.carry <;>
    simp [hi, getLsbD_latchQC, getLsbD_flagWrite, h27, h28, hbit i hi]

/-- STATUS built from its flags shows them, and 0 below bit 27. -/
theorem statusOf_flags (n z c v qc : Bool) :
    statusN (statusOf n z c v qc) = n ∧ statusZ (statusOf n z c v qc) = z ∧ statusC (statusOf n z c v qc) = c ∧
      statusV (statusOf n z c v qc) = v ∧ statusQC (statusOf n z c v qc) = qc ∧
      (statusOf n z c v qc).extractLsb' 0 27 = 0#27 := by
  cases n <;> cases z <;> cases c <;> cases v <;> cases qc <;> decide

/-! ## VPR -/

/-- The fields of VPR built from its fields, and 0 above them. -/
theorem vprOf_fields (p0 : Mask) (m01 m23 : BitVec 4) :
    vprP0 (vprOf p0 m01 m23) = p0 ∧ vprMask01 (vprOf p0 m01 m23) = m01 ∧ vprMask23 (vprOf p0 m01 m23) = m23 ∧
      (vprOf p0 m01 m23).extractLsb' 24 8 = 0#8 := by
  refine ⟨?_, ?_, ?_, ?_⟩ <;> apply BitVec.eq_of_getLsbD_eq <;> intro i hi <;>
    simp only [vprP0, vprMask01, vprMask23, vprOf, BitVec.getLsbD_extractLsb', BitVec.getLsbD_append, hi, decide_true,
      Bool.true_and]
  · simp only [Nat.zero_add, hi, if_true]
  · simp only [show ¬ 16 + i < 16 by omega, if_false, show 16 + i - 16 = i by omega, hi, if_true]
  · simp only [show ¬ 20 + i < 16 by omega, if_false, show ¬ 20 + i - 16 < 4 by omega,
      show 20 + i - 16 - 4 = i by omega, hi, if_true]
  · simp only [show ¬ 24 + i < 16 by omega, if_false, show ¬ 24 + i - 16 < 4 by omega,
      show ¬ 24 + i - 16 - 4 < 4 by omega, BitVec.getLsbD_zero]

/-- The Advancer keeps the bits VPR does not implement at 0 (10_state.md R34). -/
theorem advanceVpr_high {gating : Bool} {e : Mask} {v : Word} (h : v.extractLsb' 24 8 = 0#8) :
    (advanceVpr gating e v).extractLsb' 24 8 = 0#8 := by
  unfold advanceVpr
  split
  · exact h
  · exact (vprOf_fields _ _ _).2.2.2

end Sys2Proof.Machine
end

