-- ==== Sys2Proof/Laws/Lanes.lean ====
section
/-! SUPPORT. What the lane, mask and merge operations do, bit by bit: the lemmas the provers cite instead of unfolding
`elem`, `setElem`, `ofLanes`, `laneBits`, `laneBytes`, `expand` and `merge`. -/

namespace Sys2Proof.Machine

/-! ## One lane -/

/-- Bit j of lane e is bit w*e + j of the register. -/
theorem getLsbD_elem (v : QWord) (e w j : Nat) : (elem v e w).getLsbD j = (decide (j < w) && v.getLsbD (w * e + j)) := by
  simp [elem, BitVec.getLsbD_extractLsb']

/-- Bit i of the register is bit i % w of lane i / w. -/
theorem getLsbD_elem_div (v : QWord) {w : Nat} (hw : 0 < w) (i : Nat) :
    (elem v (i / w) w).getLsbD (i % w) = v.getLsbD i := by
  rw [getLsbD_elem, Nat.div_add_mod]
  simp only [Nat.mod_lt i hw, decide_true, Bool.true_and]

/-- Bit i of SetElem(v, e, w, x) is x's inside lane e and v's outside it. -/
theorem getLsbD_setElem (v : QWord) (e w : Nat) (x : BitVec w) (i : Nat) (hi : i < 128) :
    (setElem v e w x).getLsbD i =
      if w * e ≤ i ∧ i < w * e + w then x.getLsbD (i - w * e) else v.getLsbD i := by
  simp only [setElem, BitVec.getLsbD_or, BitVec.getLsbD_and, BitVec.getLsbD_not, BitVec.getLsbD_shiftLeft,
    BitVec.getLsbD_setWidth, BitVec.getLsbD_allOnes, hi, decide_true, Bool.true_and]
  by_cases h1 : i < w * e
  · simp [h1, Nat.not_le.mpr h1]
  · have h2 : w * e ≤ i := by omega
    by_cases h3 : i < w * e + w
    · have h4 : i - w * e < w := by omega
      have h5 : i - w * e < 128 := by omega
      simp [h1, h2, h3, h4, h5]
    · have h4 : ¬ i - w * e < w := by omega
      simp [h1, h3, h4, BitVec.getLsbD_of_ge x _ (Nat.not_lt.mp h4)]

/-- Lane e after it is set is what it was set to, where the lane lies inside the register. -/
theorem elem_setElem_self (v : QWord) (e w : Nat) (x : BitVec w) (h : w * e + w ≤ 128) :
    elem (setElem v e w x) e w = x := by
  ext j hj
  simp only [← BitVec.getLsbD_eq_getElem, getLsbD_elem]
  rw [getLsbD_setElem _ _ _ _ _ (by omega)]
  simp [hj]

/-- Setting one lane leaves every other lane of the same width as it was. -/
theorem elem_setElem_other (v : QWord) {e k w : Nat} (x : BitVec w) (h : k ≠ e) (hk : w * k + w ≤ 128) :
    elem (setElem v e w x) k w = elem v k w := by
  ext j hj
  simp only [← BitVec.getLsbD_eq_getElem, getLsbD_elem]
  rw [getLsbD_setElem _ _ _ _ _ (by omega)]
  have : ¬ (w * e ≤ w * k + j ∧ w * k + j < w * e + w) := by
    rintro ⟨h1, h2⟩
    rcases Nat.lt_or_gt_of_ne h with h3 | h3
    · have := Nat.mul_le_mul_left w h3
      rw [Nat.mul_succ] at this
      omega
    · have := Nat.mul_le_mul_left w h3
      rw [Nat.mul_succ] at this
      omega
  simp [this]

/-! ## All lanes -/

/-- Lane k of a register built from its first n lanes. -/
theorem elem_firstLanes (w : Nat) (f : Nat → BitVec w) (n k : Nat) (hk : w * k + w ≤ 128) :
    elem (firstLanes w f n) k w = if k < n then f k else 0 := by
  induction n with
  | zero => simp [firstLanes, elem]
  | succ n ih =>
    have hstep : firstLanes w f (n + 1) = setElem (firstLanes w f n) n w (f n) := by
      simp [firstLanes, List.range_succ]
    rw [hstep]
    by_cases h : k = n
    · subst h
      rw [elem_setElem_self _ _ _ _ hk]
      simp
    · rw [elem_setElem_other _ _ h hk, ih]
      by_cases h2 : k < n
      · simp [h2, Nat.lt_succ_of_lt h2]
      · have h3 : ¬ k < n + 1 := by omega
        simp [h2, h3]

/-- A lane number below Lanes(w) names a lane inside the register. -/
theorem lane_fits {w k : Nat} (h : k < lanes w) : w * k + w ≤ 128 := by
  unfold lanes at h
  rcases Nat.eq_zero_or_pos w with h0 | h0
  · simp [h0]
  · have := (Nat.le_div_iff_mul_le h0).mp h
    rw [Nat.succ_mul, Nat.mul_comm] at this
    omega

/-- Lane k of the register whose lanes are f is f k. -/
theorem elem_ofLanes (w : Nat) (f : Nat → BitVec w) (k : Nat) (h : k < lanes w) : elem (ofLanes w f) k w = f k := by
  rw [ofLanes, elem_firstLanes w f _ k (lane_fits h)]
  simp [h]

/-- Two registers whose lanes agree are one, at the widths 8, 16, 32 and 64. -/
theorem eq_of_elems {w : Nat} (hw : w ∈ [8, 16, 32, 64]) {x y : QWord} (h : ∀ k, k < lanes w → elem x k w = elem y k w) :
    x = y := by
  have h0 : 0 < w ∧ lanes w * w = 128 := by
    simp only [List.mem_cons, List.not_mem_nil, or_false] at hw
    rcases hw with rfl | rfl | rfl | rfl <;> decide
  apply BitVec.eq_of_getLsbD_eq
  intro i hi
  have hk : i / w < lanes w := by
    rw [Nat.div_lt_iff_lt_mul h0.1]
    omega
  have := congrArg (fun z => z.getLsbD (i % w)) (h _ hk)
  simp only [getLsbD_elem_div _ h0.1] at this
  exact this

/-! ## Merge -/

/-- Bit i of Merge(old, new, K) is new's where the mask has bit i / 8 and old's where it has not
(40_predication.md R117). -/
theorem getLsbD_merge (old new : QWord) (k : Mask) (i : Nat) (hi : i < 128) :
    (merge old new k).getLsbD i = if k.getLsbD (i / 8) then new.getLsbD i else old.getLsbD i := by
  have hb : i / 8 < lanes 8 := by
    have : lanes 8 = 16 := rfl
    omega
  have h := congrArg (fun z => z.getLsbD (i % 8)) (elem_ofLanes 8
    (fun b => if k.getLsbD b then byteAt new b else byteAt old b) (i / 8) hb)
  simp only [getLsbD_elem_div _ (by decide : 0 < 8)] at h
  unfold merge
  rw [h]
  split <;> exact getLsbD_elem_div _ (by decide) i

/-! ## Masks -/

/-- Bit j of a mask folded together from one-bit or many-bit pieces. -/
theorem getLsbD_orFold (p : Nat → Bool) (g : Nat → Mask) (n j : Nat) :
    ((List.range n).foldl (fun m e => if p e then m ||| g e else m) 0).getLsbD j =
      decide (∃ e, e < n ∧ p e = true ∧ (g e).getLsbD j = true) := by
  induction n with
  | zero => simp
  | succ n ih =>
    rw [List.range_succ, List.foldl_append]
    simp only [List.foldl_cons, List.foldl_nil]
    have hsplit : (∃ e, e < n + 1 ∧ p e = true ∧ (g e).getLsbD j = true) ↔
        (∃ e, e < n ∧ p e = true ∧ (g e).getLsbD j = true) ∨ (p n = true ∧ (g n).getLsbD j = true) := by
      constructor
      · rintro ⟨e, h1, h2⟩
        rcases Nat.lt_succ_iff_lt_or_eq.mp h1 with h3 | rfl
        · exact .inl ⟨e, h3, h2⟩
        · exact .inr h2
      · rintro (⟨e, h1, h2⟩ | h2)
        · exact ⟨e, Nat.lt_succ_of_lt h1, h2⟩
        · exact ⟨n, Nat.lt_succ_self n, h2⟩
    by_cases hp : p n = true
    · rw [if_pos hp, BitVec.getLsbD_or, ih, Bool.eq_iff_iff, decide_eq_true_iff, hsplit]
      simp [hp]
    · rw [if_neg hp, ih, Bool.eq_iff_iff, decide_eq_true_iff, decide_eq_true_iff, hsplit]
      simp [hp]

/-- Bit j of `laneBits`: the lowest byte of a lane for which p holds. -/
theorem getLsbD_laneBits (w : Nat) (p : Nat → Bool) (j : Nat) :
    (laneBits w p).getLsbD j = decide (j < 16 ∧ ∃ e, e < lanes w ∧ p e = true ∧ e * w / 8 = j) := by
  rw [laneBits, getLsbD_orFold p (fun e => 1#16 <<< (e * w / 8)), Bool.eq_iff_iff, decide_eq_true_iff, decide_eq_true_iff]
  constructor
  · rintro ⟨e, h1, h2, h3⟩
    simp only [BitVec.getLsbD_shiftLeft, Bool.and_eq_true, decide_eq_true_eq, Bool.not_eq_true', decide_eq_false_iff_not,
      BitVec.getLsbD_one] at h3
    exact ⟨h3.1.1, e, h1, h2, by omega⟩
  · rintro ⟨h0, e, h1, h2, rfl⟩
    refine ⟨e, h1, h2, ?_⟩
    simp [h0]

/-- Bit j of `laneBytes`: any byte of a lane for which p holds. -/
theorem getLsbD_laneBytes (w : Nat) (p : Nat → Bool) (j : Nat) :
    (laneBytes w p).getLsbD j =
      decide (j < 16 ∧ ∃ e, e < lanes w ∧ p e = true ∧ e * (w / 8) ≤ j ∧ j < e * (w / 8) + w / 8) := by
  rw [laneBytes, getLsbD_orFold p (fun e => BitVec.ofNat 16 (2 ^ (w / 8) - 1) <<< (e * (w / 8))), Bool.eq_iff_iff,
    decide_eq_true_iff, decide_eq_true_iff]
  have hbit : ∀ e, (BitVec.ofNat 16 (2 ^ (w / 8) - 1) <<< (e * (w / 8))).getLsbD j = true ↔
      j < 16 ∧ e * (w / 8) ≤ j ∧ j < e * (w / 8) + w / 8 := by
    intro e
    simp only [BitVec.getLsbD_shiftLeft, BitVec.getLsbD_ofNat, Nat.testBit_two_pow_sub_one, Bool.and_eq_true,
      decide_eq_true_eq, Bool.not_eq_true', decide_eq_false_iff_not]
    omega
  constructor
  · rintro ⟨e, h1, h2, h3⟩
    obtain ⟨h4, h5⟩ := (hbit e).mp h3
    exact ⟨h4, e, h1, h2, h5⟩
  · rintro ⟨h0, e, h1, h2, h3⟩
    exact ⟨e, h1, h2, (hbit e).mpr ⟨h0, h3⟩⟩

/-- Bit j of Expand_k(p) is predicate bit j / 8 (40_predication.md R116). -/
theorem getLsbD_expand (k : Nat) (p : BitVec k) (j : Nat) (hj : j < 8 * k) :
    (expand k p).getLsbD j = p.getLsbD (j / 8) := by
  have key : ∀ n, ((List.range n).foldl
      (fun (v : BitVec (8 * k)) i => if p.getLsbD i then v ||| (0xFF#(8 * k) <<< (8 * i)) else v) 0).getLsbD j =
        (decide (j / 8 < n) && p.getLsbD (j / 8)) := by
    intro n
    induction n with
    | zero => simp
    | succ n ih =>
      rw [List.range_succ, List.foldl_append]
      simp only [List.foldl_cons, List.foldl_nil]
      have hff : (0xFF#(8 * k) <<< (8 * n)).getLsbD j = decide (j / 8 = n) := by
        have h255 : (255 : Nat) = 2 ^ 8 - 1 := rfl
        rw [BitVec.getLsbD_shiftLeft, BitVec.getLsbD_ofNat, h255, Nat.testBit_two_pow_sub_one, Bool.eq_iff_iff]
        simp only [Bool.and_eq_true, decide_eq_true_eq, Bool.not_eq_true', decide_eq_false_iff_not]
        omega
      by_cases hp : p.getLsbD n = true
      · rw [if_pos hp, BitVec.getLsbD_or, ih, hff]
        by_cases he : j / 8 = n
        · simp [he, hp]
        · have : (j / 8 < n + 1) ↔ (j / 8 < n) := by omega
          simp [he, this]
      · rw [if_neg hp, ih]
        by_cases he : j / 8 = n
        · simp [he, Bool.not_eq_true _ ▸ hp]
        · have : (j / 8 < n + 1) ↔ (j / 8 < n) := by omega
          simp [this]
  have hk : j / 8 < k := by omega
  rw [expand, key k]
  simp [hk]

/-- The lane form of the merge, bit by bit: the predicate bit of the byte chooses. -/
theorem getLsbD_mergeLane {w : Nat} (hw : w % 8 = 0) (m : Mask) (e : Nat) (old new : BitVec w) (j : Nat) (hj : j < w) :
    (mergeLane m e w old new).getLsbD j = if m.getLsbD (e * (w / 8) + j / 8) then new.getLsbD j else old.getLsbD j := by
  have h1 : j < 8 * (w / 8) := by omega
  have h2 : j / 8 < w / 8 := by omega
  simp only [mergeLane, BitVec.getLsbD_or, BitVec.getLsbD_and, BitVec.getLsbD_not, BitVec.getLsbD_setWidth, hj,
    decide_true, Bool.true_and, getLsbD_expand _ _ _ h1, lanePredicate, BitVec.getLsbD_extractLsb', h2]
  by_cases h : m.getLsbD (e * (w / 8) + j / 8) = true
  · simp [h]
  · simp [h]

/-- The widths a result lane has. -/
theorem Width.bits_mod (w : Width) : w.bits % 8 = 0 := by cases w <;> rfl

/-- Lane k of a merged register is the lane form of the merge (40_predication.md R117), at every width that is a
number of bytes. -/
theorem elem_merge_of_bytes {w : Nat} (hw : w % 8 = 0) (old new : QWord) (m : Mask) (k : Nat) (hk : w * k + w ≤ 128) :
    elem (merge old new m) k w = mergeLane m k w (elem old k w) (elem new k w) := by
  apply BitVec.eq_of_getLsbD_eq
  intro j hj
  rw [getLsbD_mergeLane hw _ _ _ _ _ hj, getLsbD_elem, getLsbD_merge _ _ _ _ (by omega), getLsbD_elem, getLsbD_elem]
  have : (w * k + j) / 8 = k * (w / 8) + j / 8 := by
    obtain ⟨q, rfl⟩ := Nat.dvd_of_mod_eq_zero hw
    have h1 : 8 * q * k + j = 8 * (k * q) + j := by ring
    rw [h1, Nat.mul_div_cancel_left q (by decide)]
    omega
  simp only [hj, decide_true, Bool.true_and, this]

end Sys2Proof.Machine
end

