-- ==== Sys2Proof/Laws/Memory.lean ====
section
/-! SUPPORT. The laws of the data memory: a read after a write, and that every memory operation keeps the canonical
form (20_memory.md R61, R64). -/

namespace Sys2Proof.Machine

/-! ## The canonical form -/

/-- A list canonical from `hi` on is canonical from any lower address on. -/
theorem memWfFrom_mono {lo hi : Nat} (h : lo ≤ hi) : ∀ {mem : List Host.Cell}, memWfFrom hi mem = true →
    memWfFrom lo mem = true
  | [], _ => rfl
  | (k, b) :: cells, hwf => by
    simp only [memWfFrom, Bool.and_eq_true, decide_eq_true_eq] at hwf ⊢
    exact ⟨⟨⟨by omega, hwf.1.1.2⟩, hwf.1.2⟩, hwf.2⟩

/-- An address below every listed one reads as an unlisted byte. -/
theorem readByte_below {lo a : Nat} (h : a < lo) : ∀ {mem : List Host.Cell}, memWfFrom lo mem = true →
    readByte mem a = unlistedByte
  | [], _ => rfl
  | (k, b) :: cells, hwf => by
    simp only [memWfFrom, Bool.and_eq_true, decide_eq_true_eq] at hwf
    have hk : k ≠ a := by omega
    simp only [readByte, hk, if_false]
    exact readByte_below (lo := k + 1) (by omega) hwf.2

/-- A write keeps the canonical form. -/
theorem writeByte_wfFrom {lo a : Nat} (b : Byte) (hlo : lo ≤ a) (ha : a < 2 ^ 32) : ∀ {mem : List Host.Cell},
    memWfFrom lo mem = true → memWfFrom lo (writeByte mem a b) = true
  | [], _ => by
    simp only [writeByte]
    split
    · rfl
    · rename_i hb
      simp only [memWfFrom, hlo, ha, hb, decide_true, not_false_eq_true, ne_eq, Bool.and_self]
  | (k, c) :: cells, hwf => by
    have hwf' := hwf
    simp only [memWfFrom, Bool.and_eq_true, decide_eq_true_eq] at hwf
    simp only [writeByte]
    split
    · rename_i hk
      split
      · exact hwf'
      · rename_i hb
        simp only [memWfFrom, Bool.and_eq_true, decide_eq_true_eq]
        exact ⟨⟨⟨hlo, ha⟩, hb⟩, ⟨⟨⟨hk, hwf.1.1.2⟩, hwf.1.2⟩, hwf.2⟩⟩
    · split
      · rename_i hk
        split
        · exact memWfFrom_mono (by omega) hwf.2
        · rename_i hb
          simp only [memWfFrom, Bool.and_eq_true, decide_eq_true_eq]
          exact ⟨⟨⟨hlo, ha⟩, hb⟩, memWfFrom_mono (by omega) hwf.2⟩
      · rename_i h1 h2
        simp only [memWfFrom, Bool.and_eq_true, decide_eq_true_eq]
        exact ⟨hwf.1, writeByte_wfFrom b (by omega) ha hwf.2⟩

/-- Storing a byte keeps the canonical form. -/
theorem writeByte_wf {mem : List Host.Cell} (a : Word) (b : Byte) (h : memWf mem = true) :
    memWf (writeByte mem a.toNat b) = true :=
  writeByte_wfFrom b (Nat.zero_le _) a.isLt h

/-- Storing bytes keeps the canonical form. -/
theorem writeBytes_wf : ∀ (bs : List Byte) {mem : List Host.Cell} (a : Word), memWf mem = true →
    memWf (writeBytes mem a bs) = true
  | [], _, _, h => h
  | b :: bs, _, a, h => writeBytes_wf bs _ (writeByte_wf a b h)

/-- Storing a value keeps the canonical form. -/
theorem writeValue_wf (endian : Endian) {mem : List Host.Cell} (a : Word) (n v : Nat) (h : memWf mem = true) :
    memWf (writeValue endian mem a n v) = true :=
  writeBytes_wf _ a h

/-- Memory right after reset is canonical: nothing is listed. -/
theorem reset_mem_wf : memWf State.reset.mem = true := rfl

/-! ## Reads after writes -/

/-- Reading the byte just written gives it. -/
theorem readByte_writeByte_self {lo a : Nat} (b : Byte) : ∀ {mem : List Host.Cell}, memWfFrom lo mem = true →
    readByte (writeByte mem a b) a = b
  | [], _ => by
    simp only [writeByte]
    split
    · rename_i hb
      simp [readByte, hb]
    · simp [readByte]
  | (k, c) :: cells, hwf => by
    have hwf' := hwf
    simp only [memWfFrom, Bool.and_eq_true, decide_eq_true_eq] at hwf
    simp only [writeByte]
    split
    · rename_i hk
      split
      · rename_i hb
        have hne : k ≠ a := by omega
        simp only [readByte, hne, if_false, hb]
        exact readByte_below (lo := k + 1) (by omega) hwf.2
      · simp [readByte]
    · split
      · rename_i hk
        split
        · rename_i hb
          rw [hb]
          exact readByte_below (lo := k + 1) (by omega) hwf.2
        · simp [readByte]
      · rename_i h1 h2
        have hne : k ≠ a := fun h => h2 h.symm
        simp only [readByte, hne, if_false]
        exact readByte_writeByte_self b hwf.2

/-- A write leaves every other byte as it was. -/
theorem readByte_writeByte_other {lo a a' : Nat} (b : Byte) (h : a' ≠ a) : ∀ {mem : List Host.Cell},
    memWfFrom lo mem = true → readByte (writeByte mem a b) a' = readByte mem a'
  | [], _ => by
    simp only [writeByte]
    split
    · rfl
    · simp [readByte, Ne.symm h]
  | (k, c) :: cells, hwf => by
    simp only [memWfFrom, Bool.and_eq_true, decide_eq_true_eq] at hwf
    simp only [writeByte]
    split
    · split
      · rfl
      · simp [readByte, Ne.symm h]
    · split
      · rename_i hk
        subst hk
        split
        · simp [readByte, Ne.symm h]
        · simp [readByte, Ne.symm h]
      · simp only [readByte]
        split
        · rfl
        · exact readByte_writeByte_other b h hwf.2

/-- The byte of memory after one byte is stored. -/
theorem readByte_writeByte {mem : List Host.Cell} (a : Word) (b : Byte) (a' : Nat) (h : memWf mem = true) :
    readByte (writeByte mem a.toNat b) a' = if a' = a.toNat then b else readByte mem a' := by
  split
  · rename_i he
    rw [he]
    exact readByte_writeByte_self b h
  · rename_i hne
    exact readByte_writeByte_other b hne h

/-- Adding to an address twice is adding the sum (00_scope.md R15). -/
theorem addrPlus_addrPlus (a : Word) (i j : Nat) : addrPlus (addrPlus a i) j = addrPlus a (i + j) := by
  simp [addrPlus, BitVec.ofNat_add, BitVec.add_assoc]

/-- Adding nothing to an address leaves it. -/
@[simp] theorem addrPlus_zero (a : Word) : addrPlus a 0 = a := by
  simp [addrPlus]

/-- Two offsets below 2^32 from one base are one address only if they are equal. -/
theorem addrPlus_inj {a : Word} {i j : Nat} (hi : i < 2 ^ 32) (hj : j < 2 ^ 32) (h : addrPlus a i = addrPlus a j) :
    i = j := by
  have h1 : BitVec.ofNat 32 i = BitVec.ofNat 32 j := by
    simpa [addrPlus] using h
  have h2 := congrArg BitVec.toNat h1
  rwa [BitVec.toNat_ofNat, BitVec.toNat_ofNat, Nat.mod_eq_of_lt hi, Nat.mod_eq_of_lt hj] at h2

/-- An address outside the stored bytes reads as before. -/
theorem readByte_writeBytes_outside : ∀ (bs : List Byte) {mem : List Host.Cell} (a : Word) (x : Nat),
    memWf mem = true → (∀ i, i < bs.length → x ≠ (addrPlus a i).toNat) →
    readByte (writeBytes mem a bs) x = readByte mem x
  | [], _, _, _, _, _ => rfl
  | b :: bs, mem, a, x, hwf, h => by
    have h0 := h 0 (by simp)
    rw [addrPlus_zero] at h0
    have hrest : ∀ i, i < bs.length → x ≠ (addrPlus (addrPlus a 1) i).toNat := by
      intro i hi
      rw [addrPlus_addrPlus, Nat.add_comm]
      exact h (i + 1) (by simpa using hi)
    rw [writeBytes, readByte_writeBytes_outside bs _ x (writeByte_wf a b hwf) hrest, readByte_writeByte a b x hwf]
    simp [h0]

/-- Stored byte i reads back at the i-th address on, for a run shorter than the address space. -/
theorem readByte_writeBytes_inside : ∀ (bs : List Byte) {mem : List Host.Cell} (a : Word) (i : Nat),
    memWf mem = true → bs.length ≤ 2 ^ 32 → (hi : i < bs.length) →
    readByte (writeBytes mem a bs) (addrPlus a i).toNat = bs[i]
  | [], _, _, _, _, _, hi => absurd hi (by simp)
  | b :: bs, mem, a, i, hwf, hlen, hi => by
    simp only [List.length_cons] at hlen hi
    cases i with
    | zero =>
      rw [writeBytes, readByte_writeBytes_outside bs _ _ (writeByte_wf a b hwf), addrPlus_zero, readByte_writeByte a b _ hwf]
      · simp
      · intro j hj he
        rw [addrPlus_addrPlus, BitVec.toNat_inj] at he
        have := addrPlus_inj (by decide) (by omega) he
        omega
    | succ i =>
      have hstep := readByte_writeBytes_inside bs (mem := writeByte mem a.toNat b) (addrPlus a 1) i
        (writeByte_wf a b hwf) (by omega) (by omega)
      rw [addrPlus_addrPlus, Nat.add_comm] at hstep
      simpa [writeBytes] using hstep

/-! ## Values and their bytes -/

/-- A value has as many bytes as asked for. -/
@[simp] theorem length_bytesOfValue : ∀ n v, (bytesOfValue n v).length = n
  | 0, _ => rfl
  | n + 1, v => by simp [bytesOfValue, length_bytesOfValue n]

/-- Byte i of a value, least significant first. -/
theorem getElem_bytesOfValue : ∀ (n v i : Nat) (h : i < (bytesOfValue n v).length),
    (bytesOfValue n v)[i] = BitVec.ofNat 8 (v / 2 ^ (8 * i))
  | 0, _, _, h => absurd h (by simp [bytesOfValue])
  | n + 1, v, 0, _ => by simp [bytesOfValue]
  | n + 1, v, i + 1, h => by
    have h' : i < (bytesOfValue n (v / 256)).length := by simpa [bytesOfValue] using h
    have := getElem_bytesOfValue n (v / 256) i h'
    simp only [bytesOfValue, List.getElem_cons_succ, this, Nat.div_div_eq_div_mul]
    congr 2
    rw [Nat.mul_succ, Nat.pow_add]
    ring

/-- Laying bytes out in memory order keeps their number. -/
@[simp] theorem length_inMemoryOrder (endian : Endian) (bs : List Byte) : (inMemoryOrder endian bs).length = bs.length := by
  cases endian <;> simp [inMemoryOrder]

/-- Byte i of a stored value is the byte MEM_ENDIAN puts there (20_memory.md R64). -/
theorem getElem_inMemoryOrder (endian : Endian) (n v i : Nat) (h : i < (inMemoryOrder endian (bytesOfValue n v)).length) :
    (inMemoryOrder endian (bytesOfValue n v))[i] = memoryByte endian n v i := by
  cases endian with
  | little => exact getElem_bytesOfValue n v i (by simpa [inMemoryOrder] using h)
  | big => simp [inMemoryOrder, List.getElem_reverse, getElem_bytesOfValue, memoryByte]

/-- After a value is stored, each of its bytes reads as MEM_ENDIAN lays it out. -/
theorem readByte_writeValue_inside (endian : Endian) {mem : List Host.Cell} (a : Word) (n v i : Nat)
    (hwf : memWf mem = true) (hn : n ≤ 2 ^ 32) (hi : i < n) :
    readByte (writeValue endian mem a n v) (addrPlus a i).toNat = memoryByte endian n v i := by
  unfold writeValue
  rw [readByte_writeBytes_inside _ a i hwf (by simpa using hn) (by simpa using hi), getElem_inMemoryOrder]

/-- After a value is stored, every address outside it reads as before. -/
theorem readByte_writeValue_outside (endian : Endian) {mem : List Host.Cell} (a : Word) (n v x : Nat)
    (hwf : memWf mem = true) (h : ∀ i, i < n → x ≠ (addrPlus a i).toNat) :
    readByte (writeValue endian mem a n v) x = readByte mem x := by
  unfold writeValue
  exact readByte_writeBytes_outside _ a x hwf (by simpa using h)

/-- The bytes of a value add up to it again. -/
theorem valueOfBytes_bytesOfValue : ∀ n v, valueOfBytes (bytesOfValue n v) = v % 2 ^ (8 * n)
  | 0, v => by simp [bytesOfValue, valueOfBytes, Nat.mod_one]
  | n + 1, v => by
    rw [bytesOfValue, valueOfBytes, valueOfBytes_bytesOfValue n, BitVec.toNat_ofNat, Nat.mul_succ, Nat.add_comm (8 * n),
      Nat.pow_add, Nat.mod_mul]

/-- Laying bytes out in memory order twice gives them back. -/
@[simp] theorem inMemoryOrder_inMemoryOrder (endian : Endian) (bs : List Byte) :
    inMemoryOrder endian (inMemoryOrder endian bs) = bs := by
  cases endian <;> simp [inMemoryOrder]

/-- Reading a value depends on its bytes only. -/
theorem readValue_congr (endian : Endian) {mem mem' : List Host.Cell} (a : Word) (n : Nat)
    (h : ∀ i, i < n → readByte mem (addrPlus a i).toNat = readByte mem' (addrPlus a i).toNat) :
    readValue endian mem a n = readValue endian mem' a n := by
  unfold readValue
  congr 2
  exact List.map_congr_left fun i hi => h i (List.mem_range.mp hi)

/-- Reading the value just stored gives its low n bytes. -/
theorem readValue_writeValue (endian : Endian) {mem : List Host.Cell} (a : Word) (n v : Nat) (hwf : memWf mem = true)
    (hn : n ≤ 2 ^ 32) : readValue endian (writeValue endian mem a n v) a n = v % 2 ^ (8 * n) := by
  rw [← valueOfBytes_bytesOfValue]
  unfold readValue
  congr 1
  rw [← inMemoryOrder_inMemoryOrder endian (bytesOfValue n v)]
  congr 1
  apply List.ext_getElem (by simp)
  intro i h1 h2
  have hi : i < n := by simpa using h1
  simp only [List.getElem_map, List.getElem_range]
  rw [readByte_writeValue_inside endian a n v i hwf hn hi, getElem_inMemoryOrder]

/-- A value read is below 2^(8n). -/
theorem readValue_lt (endian : Endian) (mem : List Host.Cell) (a : Word) (n : Nat) :
    readValue endian mem a n < 2 ^ (8 * n) := by
  have key : ∀ bs : List Byte, valueOfBytes bs < 2 ^ (8 * bs.length) := by
    intro bs
    induction bs with
    | nil => simp [valueOfBytes]
    | cons b bs ih =>
      have hb := b.isLt
      rw [valueOfBytes, List.length_cons, Nat.mul_succ, Nat.pow_add]
      omega
  have := key (inMemoryOrder endian ((List.range n).map fun i => readByte mem (addrPlus a i).toNat))
  simpa [readValue] using this

end Sys2Proof.Machine
end

