-- ==== Sys2Proof/Laws/State.lean ====
section
/-! SUPPORT. What each update of the state does to each field, true by rfl, so that no later proof unfolds an update;
reads of the register file after a write; and the Resolver, which reads four registers only (40_predication.md R114). -/

namespace Sys2Proof.Machine

/-! ## setQ -/

@[simp] theorem State.setQ_q (s : State) (d : QReg) (v : QWord) : (s.setQ d v).q = s.q.set d v := rfl

@[simp] theorem State.setQ_vpr (s : State) (d : QReg) (v : QWord) : (s.setQ d v).vpr = s.vpr := rfl

@[simp] theorem State.setQ_loopcount (s : State) (d : QReg) (v : QWord) : (s.setQ d v).loopcount = s.loopcount := rfl

@[simp] theorem State.setQ_ltpsize (s : State) (d : QReg) (v : QWord) : (s.setQ d v).ltpsize = s.ltpsize := rfl

@[simp] theorem State.setQ_eci (s : State) (d : QReg) (v : QWord) : (s.setQ d v).eci = s.eci := rfl

@[simp] theorem State.setQ_status (s : State) (d : QReg) (v : QWord) : (s.setQ d v).status = s.status := rfl

@[simp] theorem State.setQ_halted (s : State) (d : QReg) (v : QWord) : (s.setQ d v).halted = s.halted := rfl

@[simp] theorem State.setQ_ports (s : State) (d : QReg) (v : QWord) : (s.setQ d v).ports = s.ports := rfl

@[simp] theorem State.setQ_res (s : State) (d : QReg) (v : QWord) : (s.setQ d v).res = s.res := rfl

@[simp] theorem State.setQ_outcome (s : State) (d : QReg) (v : QWord) : (s.setQ d v).outcome = s.outcome := rfl

@[simp] theorem State.setQ_requests (s : State) (d : QReg) (v : QWord) : (s.setQ d v).requests = s.requests := rfl

@[simp] theorem State.setQ_mem (s : State) (d : QReg) (v : QWord) : (s.setQ d v).mem = s.mem := rfl

@[simp] theorem State.setQ_memFaults (s : State) (d : QReg) (v : QWord) : (s.setQ d v).memFaults = s.memFaults := rfl

@[simp] theorem State.setQ_cfg (s : State) (d : QReg) (v : QWord) : (s.setQ d v).cfg = s.cfg := rfl

@[simp] theorem State.setQ_inputs (s : State) (d : QReg) (v : QWord) : (s.setQ d v).inputs = s.inputs := rfl

/-! ## setStatus -/

@[simp] theorem State.setStatus_q (s : State) (st : Word) : (s.setStatus st).q = s.q := rfl

@[simp] theorem State.setStatus_vpr (s : State) (st : Word) : (s.setStatus st).vpr = s.vpr := rfl

@[simp] theorem State.setStatus_loopcount (s : State) (st : Word) : (s.setStatus st).loopcount = s.loopcount := rfl

@[simp] theorem State.setStatus_ltpsize (s : State) (st : Word) : (s.setStatus st).ltpsize = s.ltpsize := rfl

@[simp] theorem State.setStatus_eci (s : State) (st : Word) : (s.setStatus st).eci = s.eci := rfl

@[simp] theorem State.setStatus_status (s : State) (st : Word) : (s.setStatus st).status = st := rfl

@[simp] theorem State.setStatus_halted (s : State) (st : Word) : (s.setStatus st).halted = s.halted := rfl

@[simp] theorem State.setStatus_ports (s : State) (st : Word) : (s.setStatus st).ports = s.ports := rfl

@[simp] theorem State.setStatus_res (s : State) (st : Word) : (s.setStatus st).res = s.res := rfl

@[simp] theorem State.setStatus_outcome (s : State) (st : Word) : (s.setStatus st).outcome = s.outcome := rfl

@[simp] theorem State.setStatus_requests (s : State) (st : Word) : (s.setStatus st).requests = s.requests := rfl

@[simp] theorem State.setStatus_mem (s : State) (st : Word) : (s.setStatus st).mem = s.mem := rfl

@[simp] theorem State.setStatus_memFaults (s : State) (st : Word) : (s.setStatus st).memFaults = s.memFaults := rfl

@[simp] theorem State.setStatus_cfg (s : State) (st : Word) : (s.setStatus st).cfg = s.cfg := rfl

@[simp] theorem State.setStatus_inputs (s : State) (st : Word) : (s.setStatus st).inputs = s.inputs := rfl

/-! ## setMem -/

@[simp] theorem State.setMem_q (s : State) (mem : List Host.Cell) : (s.setMem mem).q = s.q := rfl

@[simp] theorem State.setMem_vpr (s : State) (mem : List Host.Cell) : (s.setMem mem).vpr = s.vpr := rfl

@[simp] theorem State.setMem_loopcount (s : State) (mem : List Host.Cell) :
    (s.setMem mem).loopcount = s.loopcount := rfl

@[simp] theorem State.setMem_ltpsize (s : State) (mem : List Host.Cell) : (s.setMem mem).ltpsize = s.ltpsize := rfl

@[simp] theorem State.setMem_eci (s : State) (mem : List Host.Cell) : (s.setMem mem).eci = s.eci := rfl

@[simp] theorem State.setMem_status (s : State) (mem : List Host.Cell) : (s.setMem mem).status = s.status := rfl

@[simp] theorem State.setMem_halted (s : State) (mem : List Host.Cell) : (s.setMem mem).halted = s.halted := rfl

@[simp] theorem State.setMem_ports (s : State) (mem : List Host.Cell) : (s.setMem mem).ports = s.ports := rfl

@[simp] theorem State.setMem_res (s : State) (mem : List Host.Cell) : (s.setMem mem).res = s.res := rfl

@[simp] theorem State.setMem_outcome (s : State) (mem : List Host.Cell) : (s.setMem mem).outcome = s.outcome := rfl

@[simp] theorem State.setMem_requests (s : State) (mem : List Host.Cell) : (s.setMem mem).requests = s.requests := rfl

@[simp] theorem State.setMem_mem (s : State) (mem : List Host.Cell) : (s.setMem mem).mem = mem := rfl

@[simp] theorem State.setMem_memFaults (s : State) (mem : List Host.Cell) :
    (s.setMem mem).memFaults = s.memFaults := rfl

@[simp] theorem State.setMem_cfg (s : State) (mem : List Host.Cell) : (s.setMem mem).cfg = s.cfg := rfl

@[simp] theorem State.setMem_inputs (s : State) (mem : List Host.Cell) : (s.setMem mem).inputs = s.inputs := rfl

/-! ## issue -/

@[simp] theorem State.issue_q (s : State) (r : MemRequest) : (s.issue r).q = s.q := rfl

@[simp] theorem State.issue_vpr (s : State) (r : MemRequest) : (s.issue r).vpr = s.vpr := rfl

@[simp] theorem State.issue_loopcount (s : State) (r : MemRequest) : (s.issue r).loopcount = s.loopcount := rfl

@[simp] theorem State.issue_ltpsize (s : State) (r : MemRequest) : (s.issue r).ltpsize = s.ltpsize := rfl

@[simp] theorem State.issue_eci (s : State) (r : MemRequest) : (s.issue r).eci = s.eci := rfl

@[simp] theorem State.issue_status (s : State) (r : MemRequest) : (s.issue r).status = s.status := rfl

@[simp] theorem State.issue_halted (s : State) (r : MemRequest) : (s.issue r).halted = s.halted := rfl

@[simp] theorem State.issue_ports (s : State) (r : MemRequest) : (s.issue r).ports = s.ports := rfl

@[simp] theorem State.issue_res (s : State) (r : MemRequest) : (s.issue r).res = s.res := rfl

@[simp] theorem State.issue_outcome (s : State) (r : MemRequest) : (s.issue r).outcome = s.outcome := rfl

@[simp] theorem State.issue_requests (s : State) (r : MemRequest) : (s.issue r).requests = s.requests ++ [r] := rfl

@[simp] theorem State.issue_mem (s : State) (r : MemRequest) : (s.issue r).mem = s.mem := rfl

@[simp] theorem State.issue_memFaults (s : State) (r : MemRequest) : (s.issue r).memFaults = s.memFaults := rfl

@[simp] theorem State.issue_cfg (s : State) (r : MemRequest) : (s.issue r).cfg = s.cfg := rfl

@[simp] theorem State.issue_inputs (s : State) (r : MemRequest) : (s.issue r).inputs = s.inputs := rfl

/-! ## present -/

@[simp] theorem State.present_q (s : State) (t : Transaction) : (s.present t).q = s.q := rfl

@[simp] theorem State.present_vpr (s : State) (t : Transaction) : (s.present t).vpr = s.vpr := rfl

@[simp] theorem State.present_loopcount (s : State) (t : Transaction) : (s.present t).loopcount = s.loopcount := rfl

@[simp] theorem State.present_ltpsize (s : State) (t : Transaction) : (s.present t).ltpsize = s.ltpsize := rfl

@[simp] theorem State.present_eci (s : State) (t : Transaction) : (s.present t).eci = s.eci := rfl

@[simp] theorem State.present_status (s : State) (t : Transaction) : (s.present t).status = s.status := rfl

@[simp] theorem State.present_halted (s : State) (t : Transaction) : (s.present t).halted = s.halted := rfl

@[simp] theorem State.present_ports (s : State) (t : Transaction) : (s.present t).ports = t := rfl

@[simp] theorem State.present_res (s : State) (t : Transaction) : (s.present t).res = s.res := rfl

@[simp] theorem State.present_outcome (s : State) (t : Transaction) : (s.present t).outcome = s.outcome := rfl

@[simp] theorem State.present_requests (s : State) (t : Transaction) : (s.present t).requests = [] := rfl

@[simp] theorem State.present_mem (s : State) (t : Transaction) : (s.present t).mem = s.mem := rfl

@[simp] theorem State.present_memFaults (s : State) (t : Transaction) : (s.present t).memFaults = s.memFaults := rfl

@[simp] theorem State.present_cfg (s : State) (t : Transaction) : (s.present t).cfg = s.cfg := rfl

@[simp] theorem State.present_inputs (s : State) (t : Transaction) : (s.present t).inputs = s.inputs := rfl

/-! ## finish -/

@[simp] theorem State.finish_q (s : State) (o : TxOutcome) (res : Option DWord) : (s.finish o res).q = s.q := rfl

@[simp] theorem State.finish_vpr (s : State) (o : TxOutcome) (res : Option DWord) :
    (s.finish o res).vpr = s.vpr := rfl

@[simp] theorem State.finish_loopcount (s : State) (o : TxOutcome) (res : Option DWord) :
    (s.finish o res).loopcount = s.loopcount := rfl

@[simp] theorem State.finish_ltpsize (s : State) (o : TxOutcome) (res : Option DWord) :
    (s.finish o res).ltpsize = s.ltpsize := rfl

@[simp] theorem State.finish_eci (s : State) (o : TxOutcome) (res : Option DWord) :
    (s.finish o res).eci = s.eci := rfl

@[simp] theorem State.finish_status (s : State) (o : TxOutcome) (res : Option DWord) :
    (s.finish o res).status = s.status := rfl

@[simp] theorem State.finish_halted (s : State) (o : TxOutcome) (res : Option DWord) :
    (s.finish o res).halted = s.halted := rfl

@[simp] theorem State.finish_ports (s : State) (o : TxOutcome) (res : Option DWord) :
    (s.finish o res).ports = s.ports := rfl

@[simp] theorem State.finish_res (s : State) (o : TxOutcome) (res : Option DWord) : (s.finish o res).res = res := rfl

@[simp] theorem State.finish_outcome (s : State) (o : TxOutcome) (res : Option DWord) :
    (s.finish o res).outcome = some o := rfl

@[simp] theorem State.finish_requests (s : State) (o : TxOutcome) (res : Option DWord) :
    (s.finish o res).requests = s.requests := rfl

@[simp] theorem State.finish_mem (s : State) (o : TxOutcome) (res : Option DWord) :
    (s.finish o res).mem = s.mem := rfl

@[simp] theorem State.finish_memFaults (s : State) (o : TxOutcome) (res : Option DWord) :
    (s.finish o res).memFaults = s.memFaults := rfl

@[simp] theorem State.finish_cfg (s : State) (o : TxOutcome) (res : Option DWord) :
    (s.finish o res).cfg = s.cfg := rfl

@[simp] theorem State.finish_inputs (s : State) (o : TxOutcome) (res : Option DWord) :
    (s.finish o res).inputs = s.inputs := rfl

/-! ## halt -/

@[simp] theorem State.halt_q (s : State) : s.halt.q = s.q := rfl

@[simp] theorem State.halt_vpr (s : State) : s.halt.vpr = s.vpr := rfl

@[simp] theorem State.halt_loopcount (s : State) : s.halt.loopcount = s.loopcount := rfl

@[simp] theorem State.halt_ltpsize (s : State) : s.halt.ltpsize = s.ltpsize := rfl

@[simp] theorem State.halt_eci (s : State) : s.halt.eci = s.eci := rfl

@[simp] theorem State.halt_status (s : State) : s.halt.status = s.status := rfl

@[simp] theorem State.halt_halted (s : State) : s.halt.halted = true := rfl

@[simp] theorem State.halt_ports (s : State) : s.halt.ports = s.ports := rfl

@[simp] theorem State.halt_res (s : State) : s.halt.res = s.res := rfl

@[simp] theorem State.halt_outcome (s : State) : s.halt.outcome = s.outcome := rfl

@[simp] theorem State.halt_requests (s : State) : s.halt.requests = s.requests := rfl

@[simp] theorem State.halt_mem (s : State) : s.halt.mem = s.mem := rfl

@[simp] theorem State.halt_memFaults (s : State) : s.halt.memFaults = s.memFaults := rfl

@[simp] theorem State.halt_cfg (s : State) : s.halt.cfg = s.cfg := rfl

@[simp] theorem State.halt_inputs (s : State) : s.halt.inputs = s.inputs := rfl

/-! ## advance -/

@[simp] theorem State.advance_q (s : State) (e : Mask) : (s.advance e).q = s.q := rfl

@[simp] theorem State.advance_vpr (s : State) (e : Mask) :
    (s.advance e).vpr = advanceVpr s.cfg.advanceEciGating e s.vpr := rfl

@[simp] theorem State.advance_loopcount (s : State) (e : Mask) : (s.advance e).loopcount = s.loopcount := rfl

@[simp] theorem State.advance_ltpsize (s : State) (e : Mask) : (s.advance e).ltpsize = s.ltpsize := rfl

@[simp] theorem State.advance_eci (s : State) (e : Mask) : (s.advance e).eci = if s.eci = 5#3 then 1#3 else 0#3 := rfl

@[simp] theorem State.advance_status (s : State) (e : Mask) : (s.advance e).status = s.status := rfl

@[simp] theorem State.advance_halted (s : State) (e : Mask) : (s.advance e).halted = s.halted := rfl

@[simp] theorem State.advance_ports (s : State) (e : Mask) : (s.advance e).ports = s.ports := rfl

@[simp] theorem State.advance_res (s : State) (e : Mask) : (s.advance e).res = s.res := rfl

@[simp] theorem State.advance_outcome (s : State) (e : Mask) : (s.advance e).outcome = s.outcome := rfl

@[simp] theorem State.advance_requests (s : State) (e : Mask) : (s.advance e).requests = s.requests := rfl

@[simp] theorem State.advance_mem (s : State) (e : Mask) : (s.advance e).mem = s.mem := rfl

@[simp] theorem State.advance_memFaults (s : State) (e : Mask) : (s.advance e).memFaults = s.memFaults := rfl

@[simp] theorem State.advance_cfg (s : State) (e : Mask) : (s.advance e).cfg = s.cfg := rfl

@[simp] theorem State.advance_inputs (s : State) (e : Mask) : (s.advance e).inputs = s.inputs := rfl

/-! ## coreReset -/

@[simp] theorem State.coreReset_q (s : State) (draw : ResetDraw) : (s.coreReset draw).q = draw.q := rfl

@[simp] theorem State.coreReset_vpr (s : State) (draw : ResetDraw) : (s.coreReset draw).vpr = 0 := rfl

@[simp] theorem State.coreReset_loopcount (s : State) (draw : ResetDraw) :
    (s.coreReset draw).loopcount = draw.loopcount := rfl

@[simp] theorem State.coreReset_ltpsize (s : State) (draw : ResetDraw) : (s.coreReset draw).ltpsize = 4 := rfl

@[simp] theorem State.coreReset_eci (s : State) (draw : ResetDraw) : (s.coreReset draw).eci = 0 := rfl

@[simp] theorem State.coreReset_status (s : State) (draw : ResetDraw) :
    (s.coreReset draw).status = statusOf draw.n draw.z draw.c draw.v draw.qc := rfl

@[simp] theorem State.coreReset_halted (s : State) (draw : ResetDraw) : (s.coreReset draw).halted = false := rfl

@[simp] theorem State.coreReset_ports (s : State) (draw : ResetDraw) : (s.coreReset draw).ports = s.ports := rfl

@[simp] theorem State.coreReset_res (s : State) (draw : ResetDraw) : (s.coreReset draw).res = none := rfl

@[simp] theorem State.coreReset_outcome (s : State) (draw : ResetDraw) : (s.coreReset draw).outcome = none := rfl

@[simp] theorem State.coreReset_requests (s : State) (draw : ResetDraw) : (s.coreReset draw).requests = [] := rfl

@[simp] theorem State.coreReset_mem (s : State) (draw : ResetDraw) : (s.coreReset draw).mem = s.mem := rfl

@[simp] theorem State.coreReset_memFaults (s : State) (draw : ResetDraw) :
    (s.coreReset draw).memFaults = s.memFaults := rfl

@[simp] theorem State.coreReset_cfg (s : State) (draw : ResetDraw) : (s.coreReset draw).cfg = s.cfg := rfl

@[simp] theorem State.coreReset_inputs (s : State) (draw : ResetDraw) : (s.coreReset draw).inputs = s.inputs := rfl

/-! ## withInputs -/

@[simp] theorem State.withInputs_q (s : State) (rest : List Input) : (s.withInputs rest).q = s.q := rfl

@[simp] theorem State.withInputs_vpr (s : State) (rest : List Input) : (s.withInputs rest).vpr = s.vpr := rfl

@[simp] theorem State.withInputs_loopcount (s : State) (rest : List Input) :
    (s.withInputs rest).loopcount = s.loopcount := rfl

@[simp] theorem State.withInputs_ltpsize (s : State) (rest : List Input) :
    (s.withInputs rest).ltpsize = s.ltpsize := rfl

@[simp] theorem State.withInputs_eci (s : State) (rest : List Input) : (s.withInputs rest).eci = s.eci := rfl

@[simp] theorem State.withInputs_status (s : State) (rest : List Input) : (s.withInputs rest).status = s.status := rfl

@[simp] theorem State.withInputs_halted (s : State) (rest : List Input) : (s.withInputs rest).halted = s.halted := rfl

@[simp] theorem State.withInputs_ports (s : State) (rest : List Input) : (s.withInputs rest).ports = s.ports := rfl

@[simp] theorem State.withInputs_res (s : State) (rest : List Input) : (s.withInputs rest).res = s.res := rfl

@[simp] theorem State.withInputs_outcome (s : State) (rest : List Input) :
    (s.withInputs rest).outcome = s.outcome := rfl

@[simp] theorem State.withInputs_requests (s : State) (rest : List Input) :
    (s.withInputs rest).requests = s.requests := rfl

@[simp] theorem State.withInputs_mem (s : State) (rest : List Input) : (s.withInputs rest).mem = s.mem := rfl

@[simp] theorem State.withInputs_memFaults (s : State) (rest : List Input) :
    (s.withInputs rest).memFaults = s.memFaults := rfl

@[simp] theorem State.withInputs_cfg (s : State) (rest : List Input) : (s.withInputs rest).cfg = s.cfg := rfl

@[simp] theorem State.withInputs_inputs (s : State) (rest : List Input) : (s.withInputs rest).inputs = rest := rfl

/-! ## The commit of a result vector -/

@[simp] theorem State.commit_q (s : State) (d : QReg) (m : Mask) (x : Effects) :
    (s.commit d m x).q = s.q.set d (merge s.q[d] x.r (m &&& x.wsel)) := rfl

@[simp] theorem State.commit_vpr (s : State) (d : QReg) (m : Mask) (x : Effects) :
    (s.commit d m x).vpr = s.vpr := rfl

@[simp] theorem State.commit_loopcount (s : State) (d : QReg) (m : Mask) (x : Effects) :
    (s.commit d m x).loopcount = s.loopcount := rfl

@[simp] theorem State.commit_ltpsize (s : State) (d : QReg) (m : Mask) (x : Effects) :
    (s.commit d m x).ltpsize = s.ltpsize := rfl

@[simp] theorem State.commit_eci (s : State) (d : QReg) (m : Mask) (x : Effects) :
    (s.commit d m x).eci = s.eci := rfl

@[simp] theorem State.commit_status (s : State) (d : QReg) (m : Mask) (x : Effects) :
    (s.commit d m x).status = statusAfter m x s.status := rfl

@[simp] theorem State.commit_halted (s : State) (d : QReg) (m : Mask) (x : Effects) :
    (s.commit d m x).halted = s.halted := rfl

@[simp] theorem State.commit_ports (s : State) (d : QReg) (m : Mask) (x : Effects) :
    (s.commit d m x).ports = s.ports := rfl

@[simp] theorem State.commit_res (s : State) (d : QReg) (m : Mask) (x : Effects) :
    (s.commit d m x).res = s.res := rfl

@[simp] theorem State.commit_outcome (s : State) (d : QReg) (m : Mask) (x : Effects) :
    (s.commit d m x).outcome = s.outcome := rfl

@[simp] theorem State.commit_requests (s : State) (d : QReg) (m : Mask) (x : Effects) :
    (s.commit d m x).requests = s.requests := rfl

@[simp] theorem State.commit_mem (s : State) (d : QReg) (m : Mask) (x : Effects) :
    (s.commit d m x).mem = s.mem := rfl

@[simp] theorem State.commit_memFaults (s : State) (d : QReg) (m : Mask) (x : Effects) :
    (s.commit d m x).memFaults = s.memFaults := rfl

@[simp] theorem State.commit_cfg (s : State) (d : QReg) (m : Mask) (x : Effects) :
    (s.commit d m x).cfg = s.cfg := rfl

@[simp] theorem State.commit_inputs (s : State) (d : QReg) (m : Mask) (x : Effects) :
    (s.commit d m x).inputs = s.inputs := rfl

/-! ## MSR -/

@[simp] theorem State.writeSysreg_vpr_q (s : State) (x : Word) :
    (s.writeSysreg .vpr x).q = s.q := rfl

@[simp] theorem State.writeSysreg_vpr_vpr (s : State) (x : Word) :
    (s.writeSysreg .vpr x).vpr = x &&& 0x00FFFFFF#32 := rfl

@[simp] theorem State.writeSysreg_vpr_loopcount (s : State) (x : Word) :
    (s.writeSysreg .vpr x).loopcount = s.loopcount := rfl

@[simp] theorem State.writeSysreg_vpr_ltpsize (s : State) (x : Word) :
    (s.writeSysreg .vpr x).ltpsize = s.ltpsize := rfl

@[simp] theorem State.writeSysreg_vpr_eci (s : State) (x : Word) :
    (s.writeSysreg .vpr x).eci = s.eci := rfl

@[simp] theorem State.writeSysreg_vpr_status (s : State) (x : Word) :
    (s.writeSysreg .vpr x).status = s.status := rfl

@[simp] theorem State.writeSysreg_vpr_halted (s : State) (x : Word) :
    (s.writeSysreg .vpr x).halted = s.halted := rfl

@[simp] theorem State.writeSysreg_vpr_ports (s : State) (x : Word) :
    (s.writeSysreg .vpr x).ports = s.ports := rfl

@[simp] theorem State.writeSysreg_vpr_res (s : State) (x : Word) :
    (s.writeSysreg .vpr x).res = s.res := rfl

@[simp] theorem State.writeSysreg_vpr_outcome (s : State) (x : Word) :
    (s.writeSysreg .vpr x).outcome = s.outcome := rfl

@[simp] theorem State.writeSysreg_vpr_requests (s : State) (x : Word) :
    (s.writeSysreg .vpr x).requests = s.requests := rfl

@[simp] theorem State.writeSysreg_vpr_mem (s : State) (x : Word) :
    (s.writeSysreg .vpr x).mem = s.mem := rfl

@[simp] theorem State.writeSysreg_vpr_memFaults (s : State) (x : Word) :
    (s.writeSysreg .vpr x).memFaults = s.memFaults := rfl

@[simp] theorem State.writeSysreg_vpr_cfg (s : State) (x : Word) :
    (s.writeSysreg .vpr x).cfg = s.cfg := rfl

@[simp] theorem State.writeSysreg_vpr_inputs (s : State) (x : Word) :
    (s.writeSysreg .vpr x).inputs = s.inputs := rfl

@[simp] theorem State.writeSysreg_status_q (s : State) (x : Word) :
    (s.writeSysreg .status x).q = s.q := rfl

@[simp] theorem State.writeSysreg_status_vpr (s : State) (x : Word) :
    (s.writeSysreg .status x).vpr = s.vpr := rfl

@[simp] theorem State.writeSysreg_status_loopcount (s : State) (x : Word) :
    (s.writeSysreg .status x).loopcount = s.loopcount := rfl

@[simp] theorem State.writeSysreg_status_ltpsize (s : State) (x : Word) :
    (s.writeSysreg .status x).ltpsize = s.ltpsize := rfl

@[simp] theorem State.writeSysreg_status_eci (s : State) (x : Word) :
    (s.writeSysreg .status x).eci = s.eci := rfl

@[simp] theorem State.writeSysreg_status_status (s : State) (x : Word) :
    (s.writeSysreg .status x).status = x &&& 0xF8000000#32 := rfl

@[simp] theorem State.writeSysreg_status_halted (s : State) (x : Word) :
    (s.writeSysreg .status x).halted = s.halted := rfl

@[simp] theorem State.writeSysreg_status_ports (s : State) (x : Word) :
    (s.writeSysreg .status x).ports = s.ports := rfl

@[simp] theorem State.writeSysreg_status_res (s : State) (x : Word) :
    (s.writeSysreg .status x).res = s.res := rfl

@[simp] theorem State.writeSysreg_status_outcome (s : State) (x : Word) :
    (s.writeSysreg .status x).outcome = s.outcome := rfl

@[simp] theorem State.writeSysreg_status_requests (s : State) (x : Word) :
    (s.writeSysreg .status x).requests = s.requests := rfl

@[simp] theorem State.writeSysreg_status_mem (s : State) (x : Word) :
    (s.writeSysreg .status x).mem = s.mem := rfl

@[simp] theorem State.writeSysreg_status_memFaults (s : State) (x : Word) :
    (s.writeSysreg .status x).memFaults = s.memFaults := rfl

@[simp] theorem State.writeSysreg_status_cfg (s : State) (x : Word) :
    (s.writeSysreg .status x).cfg = s.cfg := rfl

@[simp] theorem State.writeSysreg_status_inputs (s : State) (x : Word) :
    (s.writeSysreg .status x).inputs = s.inputs := rfl

@[simp] theorem State.writeSysreg_loopcount_q (s : State) (x : Word) :
    (s.writeSysreg .loopcount x).q = s.q := rfl

@[simp] theorem State.writeSysreg_loopcount_vpr (s : State) (x : Word) :
    (s.writeSysreg .loopcount x).vpr = s.vpr := rfl

@[simp] theorem State.writeSysreg_loopcount_loopcount (s : State) (x : Word) :
    (s.writeSysreg .loopcount x).loopcount = x := rfl

@[simp] theorem State.writeSysreg_loopcount_ltpsize (s : State) (x : Word) :
    (s.writeSysreg .loopcount x).ltpsize = s.ltpsize := rfl

@[simp] theorem State.writeSysreg_loopcount_eci (s : State) (x : Word) :
    (s.writeSysreg .loopcount x).eci = s.eci := rfl

@[simp] theorem State.writeSysreg_loopcount_status (s : State) (x : Word) :
    (s.writeSysreg .loopcount x).status = s.status := rfl

@[simp] theorem State.writeSysreg_loopcount_halted (s : State) (x : Word) :
    (s.writeSysreg .loopcount x).halted = s.halted := rfl

@[simp] theorem State.writeSysreg_loopcount_ports (s : State) (x : Word) :
    (s.writeSysreg .loopcount x).ports = s.ports := rfl

@[simp] theorem State.writeSysreg_loopcount_res (s : State) (x : Word) :
    (s.writeSysreg .loopcount x).res = s.res := rfl

@[simp] theorem State.writeSysreg_loopcount_outcome (s : State) (x : Word) :
    (s.writeSysreg .loopcount x).outcome = s.outcome := rfl

@[simp] theorem State.writeSysreg_loopcount_requests (s : State) (x : Word) :
    (s.writeSysreg .loopcount x).requests = s.requests := rfl

@[simp] theorem State.writeSysreg_loopcount_mem (s : State) (x : Word) :
    (s.writeSysreg .loopcount x).mem = s.mem := rfl

@[simp] theorem State.writeSysreg_loopcount_memFaults (s : State) (x : Word) :
    (s.writeSysreg .loopcount x).memFaults = s.memFaults := rfl

@[simp] theorem State.writeSysreg_loopcount_cfg (s : State) (x : Word) :
    (s.writeSysreg .loopcount x).cfg = s.cfg := rfl

@[simp] theorem State.writeSysreg_loopcount_inputs (s : State) (x : Word) :
    (s.writeSysreg .loopcount x).inputs = s.inputs := rfl

@[simp] theorem State.writeSysreg_ltpsize_q (s : State) (x : Word) :
    (s.writeSysreg .ltpsize x).q = s.q := rfl

@[simp] theorem State.writeSysreg_ltpsize_vpr (s : State) (x : Word) :
    (s.writeSysreg .ltpsize x).vpr = s.vpr := rfl

@[simp] theorem State.writeSysreg_ltpsize_loopcount (s : State) (x : Word) :
    (s.writeSysreg .ltpsize x).loopcount = s.loopcount := rfl

@[simp] theorem State.writeSysreg_ltpsize_ltpsize (s : State) (x : Word) :
    (s.writeSysreg .ltpsize x).ltpsize = x.extractLsb' 0 3 := rfl

@[simp] theorem State.writeSysreg_ltpsize_eci (s : State) (x : Word) :
    (s.writeSysreg .ltpsize x).eci = s.eci := rfl

@[simp] theorem State.writeSysreg_ltpsize_status (s : State) (x : Word) :
    (s.writeSysreg .ltpsize x).status = s.status := rfl

@[simp] theorem State.writeSysreg_ltpsize_halted (s : State) (x : Word) :
    (s.writeSysreg .ltpsize x).halted = s.halted := rfl

@[simp] theorem State.writeSysreg_ltpsize_ports (s : State) (x : Word) :
    (s.writeSysreg .ltpsize x).ports = s.ports := rfl

@[simp] theorem State.writeSysreg_ltpsize_res (s : State) (x : Word) :
    (s.writeSysreg .ltpsize x).res = s.res := rfl

@[simp] theorem State.writeSysreg_ltpsize_outcome (s : State) (x : Word) :
    (s.writeSysreg .ltpsize x).outcome = s.outcome := rfl

@[simp] theorem State.writeSysreg_ltpsize_requests (s : State) (x : Word) :
    (s.writeSysreg .ltpsize x).requests = s.requests := rfl

@[simp] theorem State.writeSysreg_ltpsize_mem (s : State) (x : Word) :
    (s.writeSysreg .ltpsize x).mem = s.mem := rfl

@[simp] theorem State.writeSysreg_ltpsize_memFaults (s : State) (x : Word) :
    (s.writeSysreg .ltpsize x).memFaults = s.memFaults := rfl

@[simp] theorem State.writeSysreg_ltpsize_cfg (s : State) (x : Word) :
    (s.writeSysreg .ltpsize x).cfg = s.cfg := rfl

@[simp] theorem State.writeSysreg_ltpsize_inputs (s : State) (x : Word) :
    (s.writeSysreg .ltpsize x).inputs = s.inputs := rfl

@[simp] theorem State.writeSysreg_eci_q (s : State) (x : Word) :
    (s.writeSysreg .eci x).q = s.q := rfl

@[simp] theorem State.writeSysreg_eci_vpr (s : State) (x : Word) :
    (s.writeSysreg .eci x).vpr = s.vpr := rfl

@[simp] theorem State.writeSysreg_eci_loopcount (s : State) (x : Word) :
    (s.writeSysreg .eci x).loopcount = s.loopcount := rfl

@[simp] theorem State.writeSysreg_eci_ltpsize (s : State) (x : Word) :
    (s.writeSysreg .eci x).ltpsize = s.ltpsize := rfl

@[simp] theorem State.writeSysreg_eci_eci (s : State) (x : Word) :
    (s.writeSysreg .eci x).eci = x.extractLsb' 0 3 := rfl

@[simp] theorem State.writeSysreg_eci_status (s : State) (x : Word) :
    (s.writeSysreg .eci x).status = s.status := rfl

@[simp] theorem State.writeSysreg_eci_halted (s : State) (x : Word) :
    (s.writeSysreg .eci x).halted = s.halted := rfl

@[simp] theorem State.writeSysreg_eci_ports (s : State) (x : Word) :
    (s.writeSysreg .eci x).ports = s.ports := rfl

@[simp] theorem State.writeSysreg_eci_res (s : State) (x : Word) :
    (s.writeSysreg .eci x).res = s.res := rfl

@[simp] theorem State.writeSysreg_eci_outcome (s : State) (x : Word) :
    (s.writeSysreg .eci x).outcome = s.outcome := rfl

@[simp] theorem State.writeSysreg_eci_requests (s : State) (x : Word) :
    (s.writeSysreg .eci x).requests = s.requests := rfl

@[simp] theorem State.writeSysreg_eci_mem (s : State) (x : Word) :
    (s.writeSysreg .eci x).mem = s.mem := rfl

@[simp] theorem State.writeSysreg_eci_memFaults (s : State) (x : Word) :
    (s.writeSysreg .eci x).memFaults = s.memFaults := rfl

@[simp] theorem State.writeSysreg_eci_cfg (s : State) (x : Word) :
    (s.writeSysreg .eci x).cfg = s.cfg := rfl

@[simp] theorem State.writeSysreg_eci_inputs (s : State) (x : Word) :
    (s.writeSysreg .eci x).inputs = s.inputs := rfl

/-! ## The register file -/

/-- Reading the register just written gives the value written. -/
@[simp] theorem getElem_set_self (v : Vector QWord 8) (d : QReg) (x : QWord) : (v.set d x)[d] = x := by
  simp

/-- Writing one register leaves every other as it was. -/
theorem getElem_set_other (v : Vector QWord 8) {d r : QReg} (x : QWord) (h : r ≠ d) : (v.set d x)[r] = v[r] := by
  simp [Vector.getElem_set]
  intro h'
  exact absurd (Fin.ext h').symm h

/-- Two register files that agree on every register are one. -/
theorem regs_ext {v u : Vector QWord 8} (h : ∀ r : QReg, v[r] = u[r]) : v = u := by
  ext i hi
  exact congrArg (fun x : QWord => x.getLsbD _) (h ⟨i, hi⟩)

/-! ## The Resolver -/

/-- The mask depends on VPR, LOOPCOUNT and LTPSIZE (and E, which ECI gives) only (40_predication.md R114). -/
theorem resolve_congr {s t : State} (hv : t.vpr = s.vpr) (hl : t.loopcount = s.loopcount) (hs : t.ltpsize = s.ltpsize)
    (e : Mask) : t.resolve e = s.resolve e := by
  simp [State.resolve, hv, hl, hs]

/-! ## The machine's step -/

/-- A step with a pending event takes it. -/
theorem step_of_inputs {s : State} {i : Input} {rest : List Input} (h : s.inputs = i :: rest) :
    step s = takeInput i (s.withInputs rest) := by
  simp [step, takeNext, h]

/-- A step with no pending event leaves the state as it is (70_reset_and_hazards.md R271). -/
theorem step_of_idle {s : State} (h : s.inputs = []) : step s = .next s := by
  simp [step, takeNext, h]

end Sys2Proof.Machine
end

