-- ==== Sys2Proof/Laws/Ops.lean ====
section
/-! SUPPORT. What the shared operations can do, each said once: the execution sequence of 40_predication.md R123, the
vector operation, the reduction, the special registers, and the result vectors of Operands.lean. -/

namespace Sys2Proof.Machine

/-! ## OUTCOME -/

@[simp] theorem TxOutcome.code_done : TxOutcome.done.code = 0 := rfl

@[simp] theorem TxOutcome.code_memoryFault (info : MemFaultInfo) : (TxOutcome.memoryFault info).code = 1 := rfl

@[simp] theorem TxOutcome.code_icv : TxOutcome.icv.code = 2 := rfl

@[simp] theorem TxOutcome.code_illegal : TxOutcome.illegal.code = 3 := rfl

/-- The codes are 0 to 3 (60_exceptions.md R255). -/
theorem TxOutcome.code_lt (o : TxOutcome) : o.code < 4 := by cases o <;> simp

/-- A transaction that ends shows its outcome's code. -/
@[simp] theorem State.outcomeCode_finish (s : State) (o : TxOutcome) (res : Option DWord) :
    (s.finish o res).outcomeCode = some o.code := rfl

/-! ## The execution sequence -/

/-- ECI has an execute mask exactly when it is not reserved (40_predication.md R113). -/
theorem eciExecMask_none_iff (eci : BitVec 3) : eciExecMask eci = none ↔ EciReserved eci := by
  revert eci
  decide

/-- A reserved ECI ends every vector operation with InternalConsistencyViolation, before any effect. -/
theorem execute_reserved {s : State} (h : EciReserved s.eci) (body : Mask → Mask → Body) :
    execute s body = .next (s.halt.finish .icv none) := by
  simp [execute, (eciExecMask_none_iff s.eci).mpr h, raiseIcv]

/-- With a legal ECI the body runs with the resolved mask and the execute mask. -/
theorem execute_legal {s : State} {e : Mask} (h : eciExecMask s.eci = some e) (body : Mask → Mask → Body) :
    execute s body =
      match body (s.resolve e) e with
      | .completed t res => .next ((t.advance e).finish .done res)
      | .aborted t info => .next (t.finish (.memoryFault info) none) := by
  simp only [execute, h]
  cases body (s.resolve e) e <;> rfl

/-- The sequence always answers a next state, one of three: ICV, completion, memory fault. -/
theorem execute_cases {s t : State} {body : Mask → Mask → Body} (h : execute s body = .next t) :
    (EciReserved s.eci ∧ t = s.halt.finish .icv none) ∨
      ∃ e, eciExecMask s.eci = some e ∧
        ((∃ u res, body (s.resolve e) e = .completed u res ∧ t = (u.advance e).finish .done res) ∨
          ∃ u info, body (s.resolve e) e = .aborted u info ∧ t = u.finish (.memoryFault info) none) := by
  cases he : eciExecMask s.eci with
  | none =>
    have hr := (eciExecMask_none_iff s.eci).mp he
    rw [execute_reserved hr] at h
    exact .inl ⟨hr, by injection h with h; exact h.symm⟩
  | some e =>
    rw [execute_legal he] at h
    refine .inr ⟨e, rfl, ?_⟩
    cases hb : body (s.resolve e) e with
    | completed u res =>
      rw [hb] at h
      exact .inl ⟨u, res, rfl, by injection h with h; exact h.symm⟩
    | aborted u info =>
      rw [hb] at h
      exact .inr ⟨u, info, rfl, by injection h with h; exact h.symm⟩

/-- The sequence never stops the machine. -/
theorem execute_next (s : State) (body : Mask → Mask → Body) : ∃ t, execute s body = .next t := by
  cases he : eciExecMask s.eci with
  | none => exact ⟨_, execute_reserved ((eciExecMask_none_iff s.eci).mp he) body⟩
  | some e =>
    rw [execute_legal he]
    cases body (s.resolve e) e with
    | completed u res => exact ⟨_, rfl⟩
    | aborted u info => exact ⟨_, rfl⟩

/-- A vector operation with a legal ECI commits its effects and completes. -/
theorem vectorOp_eq {s : State} {e : Mask} (h : eciExecMask s.eci = some e) (d : QReg) (effects : Mask → Effects) :
    vectorOp d effects s =
      .next (((s.commit d (s.resolve e) (effects (s.resolve e))).advance e).finish .done none) := by
  simp only [vectorOp, execute_legal h]

/-- A reduction with a legal ECI completes with its value. -/
theorem reduceOp_eq {s : State} {e : Mask} (h : eciExecMask s.eci = some e) (value : Mask → Int) :
    reduceOp value s = .next ((s.advance e).finish .done (some (trunc 64 (value (s.resolve e))))) := by
  simp only [reduceOp, execute_legal h]

/-- A vector operation with a legal ECI: the frame, Q[d] and STATUS. -/
theorem vectorOp_spec {s : State} {e : Mask} (h : eciExecMask s.eci = some e) (d : QReg) (effects : Mask → Effects) :
    ∃ t, vectorOp d effects s = .next t ∧ WritesOnlyQ s t d e ∧
      t.q[d] = merge s.q[d] (effects (s.resolve e)).r (s.resolve e &&& (effects (s.resolve e)).wsel) ∧
      t.status = statusAfter (s.resolve e) (effects (s.resolve e)) s.status := by
  refine ⟨_, vectorOp_eq h d effects, ⟨⟨⟨rfl, rfl⟩, ⟨rfl, rfl, rfl, rfl, rfl, rfl, rfl⟩, rfl, rfl⟩, ?_, fun _ => rfl, rfl⟩,
    ?_, rfl⟩
  · intro r hr
    exact getElem_set_other _ _ hr
  · exact getElem_set_self _ _ _

/-- A reduction with a legal ECI: the frame and RES. -/
theorem reduceOp_spec {s : State} {e : Mask} (h : eciExecMask s.eci = some e) (value : Mask → Int) :
    ∃ t, reduceOp value s = .next t ∧ Reduces s t e (trunc 64 (value (s.resolve e))) :=
  ⟨_, reduceOp_eq h value, ⟨⟨rfl, rfl⟩, ⟨rfl, rfl, rfl, rfl, rfl, rfl, rfl⟩, rfl, rfl⟩, fun _ => rfl, fun _ => rfl, rfl,
    rfl⟩

/-! ## The Resolver -/

/-- The resolved mask lies inside the execute mask. -/
theorem resolve_sub (s : State) (e : Mask) (b : Nat) (h : (s.resolve e).getLsbD b = true) : e.getLsbD b = true := by
  simp only [State.resolve, BitVec.getLsbD_and, Bool.and_eq_true] at h
  exact h.2

/-- An active lane lies in an executed beat. -/
theorem active_of_resolve {s : State} {e : Mask} {k w : Nat} (h : active (s.resolve e) k w = true) :
    active e k w = true :=
  resolve_sub s e _ h

/-! ## Result vectors -/

/-- The lowest byte of a lane lies inside the mask. -/
theorem lowest_byte_lt {w : Width} {k : Nat} (h : k < lanes w.bits) : k * w.bits / 8 < 16 := by
  cases w <;> simp only [Width.bits, lanes] at h ⊢ <;> omega

/-- Two lanes of one width have different lowest bytes. -/
theorem lowest_byte_inj {w : Width} {j k : Nat} (h : j * w.bits / 8 = k * w.bits / 8) : j = k := by
  cases w <;> simp only [Width.bits] at h <;> omega

/-- Indicators at lowest bytes meet a mask exactly when an indicated lane is active in it. -/
theorem laneBits_meets (w : Width) (p : Nat → Bool) (m : Mask) :
    ((laneBits w.bits p &&& m) != 0) = true ↔ ∃ k, k < lanes w.bits ∧ p k = true ∧ active m k w.bits = true := by
  rw [bne_iff_ne]
  constructor
  · intro h
    obtain ⟨j, hj⟩ : ∃ j, (laneBits w.bits p &&& m).getLsbD j = true := by
      by_contra hc
      push Not at hc
      exact h (BitVec.eq_of_getLsbD_eq fun i _ => by simpa using hc i)
    rw [BitVec.getLsbD_and, Bool.and_eq_true, getLsbD_laneBits, decide_eq_true_iff] at hj
    obtain ⟨⟨_, k, hk, hp, rfl⟩, hm⟩ := hj
    exact ⟨k, hk, hp, hm⟩
  · rintro ⟨k, hk, hp, hm⟩ h0
    have h1 := congrArg (fun z => z.getLsbD (k * w.bits / 8)) h0
    rw [BitVec.getLsbD_and, getLsbD_laneBits] at h1
    have h2 : (k * w.bits / 8 < 16 ∧ ∃ e, e < lanes w.bits ∧ p e = true ∧ e * w.bits / 8 = k * w.bits / 8) :=
      ⟨lowest_byte_lt hk, k, hk, hp, rfl⟩
    have h3 : m.getLsbD (k * w.bits / 8) = true := hm
    rw [decide_eq_true h2, h3] at h1
    simp at h1

/-- A whole-vector operation writes every lane merged under M. -/
theorem lanesMerged_of_merge {s t : State} {d : QReg} {m : Mask} {w : Nat} (hw : w % 8 = 0) (f : Nat → BitVec w)
    (h : t.q[d] = merge s.q[d] (ofLanes w f) (m &&& 0xFFFF#16)) : LanesMerged s t d m w f := by
  intro k hk
  have hall : m &&& 0xFFFF#16 = m := by
    rw [show (0xFFFF#16) = BitVec.allOnes 16 from rfl, BitVec.and_allOnes]
  rw [h, hall, elem_merge_of_bytes hw _ _ _ _ (lane_fits hk), elem_ofLanes w f k hk]

/-- An operation on every lane of width w: the frame, the lanes merged under M, and QC set exactly when it was or an
indicated lane's lowest byte is active (40_predication.md R119). -/
theorem laneEffects_spec {s : State} {e : Mask} (h : eciExecMask s.eci = some e) (d : QReg) (w : Width)
    (f : Nat → Int × Bool) :
    ∃ t, vectorOp d (fun _ => laneEffects w.bits f) s = .next t ∧ WritesOnlyQ s t d e ∧
      LanesMerged s t d (s.resolve e) w.bits (fun k => trunc w.bits (f k).1) ∧
      LatchesQC s t (∃ k, k < lanes w.bits ∧ active (s.resolve e) k w.bits = true ∧ (f k).2 = true) := by
  obtain ⟨t, h1, h2, h3, h4⟩ := vectorOp_spec h d (fun _ => laneEffects w.bits f)
  refine ⟨t, h1, h2, lanesMerged_of_merge w.bits_mod _ h3, ?_, ?_⟩
  · intro i hi
    rw [h4, getLsbD_statusAfter_none rfl]
    simp [hi]
  · rw [h4, statusQC, getLsbD_statusAfter_none rfl, statusQC]
    have hall : s.resolve e &&& (laneEffects w.bits f).wsel = s.resolve e := by
      rw [show (laneEffects w.bits f).wsel = BitVec.allOnes 16 from rfl, BitVec.and_allOnes]
    rw [hall]
    simp only [decide_true, Bool.and_true, Bool.or_eq_true]
    rw [show (laneEffects w.bits f).sat = laneBits w.bits fun k => (f k).2 from rfl, laneBits_meets]
    constructor
    · rintro (h5 | ⟨k, h5, h6, h7⟩)
      · exact .inl h5
      · exact .inr ⟨k, h5, h7, h6⟩
    · rintro (h5 | ⟨k, h5, h6, h7⟩)
      · exact .inl h5
      · exact .inr ⟨k, h5, h7, h6⟩

/-- An operation whose lanes never saturate leaves STATUS as it was. -/
theorem laneEffects_plain {s : State} {e : Mask} (h : eciExecMask s.eci = some e) (d : QReg) (w : Nat)
    (hw : w % 8 = 0) (f : Nat → Int × Bool) (hf : ∀ k, (f k).2 = false) :
    ∃ t, vectorOp d (fun _ => laneEffects w f) s = .next t ∧ WritesOnlyQ s t d e ∧ t.status = s.status ∧
      LanesMerged s t d (s.resolve e) w (fun k => trunc w (f k).1) := by
  obtain ⟨t, h1, h2, h3, h4⟩ := vectorOp_spec h d (fun _ => laneEffects w f)
  refine ⟨t, h1, h2, ?_, lanesMerged_of_merge hw _ h3⟩
  rw [h4, statusAfter_plain rfl]
  apply BitVec.eq_of_getLsbD_eq
  intro i _
  simp [laneEffects, getLsbD_laneBits, hf]

/-- A lane-local operation whose lane function never saturates. -/
theorem laneOp_plain {s : State} {e : Mask} (h : eciExecMask s.eci = some e) {f : Nat → Bool → Int → Int → Int × Bool}
    (hf : ∀ w u a b, (f w u a b).2 = false) (w : Width) (u : Bool) (d n : QReg) (src : Operand2) :
    ∃ t, laneOp f w u d n src s = .next t ∧ WritesOnlyQ s t d e ∧ t.status = s.status ∧
      LanesMerged s t d (s.resolve e) w.bits fun k =>
        trunc w.bits (f w.bits u (intOf u (s.lane n k w.bits)) (intOf u (s.lane2 src k w.bits))).1 :=
  laneEffects_plain h d w.bits w.bits_mod _ fun _ => hf _ _ _ _

/-- Sat clamps, and indicates exactly the values that do not fit (00_scope.md R13). -/
theorem sat_eq_clamp (v : Int) (w : Nat) (u : Bool) : (sat v w u).1 = clamp w u v := by
  have hle : satLow w u ≤ satHigh w u := by
    have h2 : (1 : Int) ≤ 2 ^ w := one_le_pow₀ (by decide)
    have h3 : (1 : Int) ≤ 2 ^ (w - 1) := one_le_pow₀ (by decide)
    cases u
    · simp only [satLow, satHigh, Bool.false_eq_true, if_false]
      omega
    · simp only [satLow, satHigh, if_true]
      omega
  unfold sat clamp
  split
  · simp only; omega
  · split
    · simp only; omega
    · simp only; omega

/-- Sat indicates saturation exactly when the exact value does not fit. -/
theorem sat_indicates (v : Int) (w : Nat) (u : Bool) : (sat v w u).2 = true ↔ Overflows w u v := by
  unfold sat Overflows
  split
  · simp_all
  · split <;> simp_all

/-! ## The special registers -/

/-- MSR always completes: the register, OUTCOME and RES change and nothing else. -/
theorem writeState_eq (r : Sysreg) (s : State) :
    writeState r s = .next ((s.writeSysreg r s.ports.scalar).finish .done none) := rfl

/-- MRS always completes: OUTCOME and RES change and nothing else. -/
theorem readState_eq (r : Sysreg) (s : State) :
    readState r s = .next (s.finish .done (some ((s.readSysreg r).setWidth 64))) := rfl

end Sys2Proof.Machine
end

