-- ==== Sys2Proof/Laws/Access.lean ====
section
/-! SUPPORT. What the element loops of VLDR and VSTR can do, each said once: completion with every active element
done, or a fault at one element with exactly the elements before it done (46_memory_access.md R231 to R236). -/

namespace Sys2Proof.Machine

/-! ## One lane of a load -/

/-- Merging a value with itself changes nothing. -/
theorem mergeLane_same {w : Nat} (hw : w % 8 = 0) (m : Mask) (k : Nat) (x : BitVec w) : mergeLane m k w x x = x := by
  apply BitVec.eq_of_getLsbD_eq
  intro j hj
  rw [getLsbD_mergeLane hw _ _ _ _ _ hj]
  split <;> rfl

/-- The loaded lane: merged under M (PRESERVE) or whole (ZERO). -/
theorem elem_loadedLane_self (inactive : LoadInactive) (m : Mask) (old : QWord) (w : Width) (k : Nat)
    (x : BitVec w.bits) (hk : k < lanes w.bits) :
    elem (loadedLane inactive m old k w.bits x) k w.bits =
      match inactive with
      | .preserve => mergeLane m k w.bits (elem old k w.bits) x
      | .zero => x := by
  cases inactive with
  | preserve =>
    simp only [loadedLane]
    rw [elem_merge_of_bytes w.bits_mod _ _ _ _ (lane_fits hk), elem_setElem_self _ _ _ _ (lane_fits hk)]
  | zero => exact elem_setElem_self _ _ _ _ (lane_fits hk)

/-- Loading one lane leaves every other as it was. -/
theorem elem_loadedLane_other (inactive : LoadInactive) (m : Mask) (old : QWord) (w : Width) {j k : Nat}
    (x : BitVec w.bits) (h : j ≠ k) (hj : j < lanes w.bits) :
    elem (loadedLane inactive m old k w.bits x) j w.bits = elem old j w.bits := by
  cases inactive with
  | preserve =>
    simp only [loadedLane]
    rw [elem_merge_of_bytes w.bits_mod _ _ _ _ (lane_fits hj), elem_setElem_other _ _ h (lane_fits hj),
      mergeLane_same w.bits_mod]
  | zero => exact elem_setElem_other _ _ h (lane_fits hj)

/-- The lane of an inactive element: kept (PRESERVE) or 0 (ZERO). -/
theorem elem_skippedLane_self (inactive : LoadInactive) (old : QWord) (w : Width) (k : Nat) (hk : k < lanes w.bits) :
    elem (skippedLane inactive old k w.bits) k w.bits =
      match inactive with
      | .preserve => elem old k w.bits
      | .zero => 0 := by
  cases inactive with
  | preserve => rfl
  | zero => exact elem_setElem_self _ _ _ _ (lane_fits hk)

/-- Skipping one lane leaves every other as it was. -/
theorem elem_skippedLane_other (inactive : LoadInactive) (old : QWord) (w : Width) {j k : Nat} (h : j ≠ k)
    (hj : j < lanes w.bits) : elem (skippedLane inactive old k w.bits) j w.bits = elem old j w.bits := by
  cases inactive with
  | preserve => rfl
  | zero => exact elem_setElem_other _ _ h (lane_fits hj)

/-! ## The loop of a load -/

/-- The state after some elements of a load: only Q[d] and the requests differ from the state before. -/
def LoadProgress (s t : State) (d : QReg) (reqs : List MemRequest) : Prop :=
  ∃ v, t = { s with q := s.q.set d v, requests := s.requests ++ reqs }

/-- Nothing loaded yet. -/
theorem loadProgress_refl (s : State) (d : QReg) : LoadProgress s s d [] :=
  ⟨s.q[d], by simp⟩

/-- The value a load gives lane j depends on the lane, the ports, memory and the parameters only. -/
theorem loadedValue_congr {s t : State} {d : QReg} {m e : Mask} {w : Width} {ms : MSize} {u : Bool} {j : Nat}
    (hlane : t.lane d j w.bits = s.lane d j w.bits) (hp : t.ports = s.ports) (hm : t.mem = s.mem) (hc : t.cfg = s.cfg) :
    loadedValue t d m e w ms u j = loadedValue s d m e w ms u j := by
  simp only [loadedValue, hlane, State.elementValue, State.elementAddress, hp, hm, hc]

/-- The requests of a list of elements: those of the active ones (20_memory.md R67, R69). -/
def loadRequestsOf (s : State) (m : Mask) (w : Width) (ms : MSize) (es : List Nat) : List MemRequest :=
  (es.filter fun j => active m j w.bits).map fun j => .read (s.elementAddress ms j) ms s.ports.faultPc

/-- What the element loop of a load gives, for elements of its own register and a mask inside the executed beats:
either no active element faults, every element's lane is loaded and every active element is requested; or an active
element faults, exactly those before it are loaded, and its request is the last. -/
def LoadLoop (s : State) (d : QReg) (m e : Mask) (w : Width) (ms : MSize) (u : Bool) (es : List Nat) : Body → Prop
  | .completed t res =>
    res = none ∧ LoadProgress s t d (loadRequestsOf s m w ms es) ∧
      (∀ j ∈ es, active m j w.bits = true → s.elementFault ms .read j = none) ∧
      ∀ j, j < lanes w.bits →
        elem t.q[d] j w.bits = if j ∈ es then loadedValue s d m e w ms u j else s.lane d j w.bits
  | .aborted t info =>
    ∃ pre k post cause, es = pre ++ k :: post ∧ active m k w.bits = true ∧
      s.elementFault ms .read k = some cause ∧ info = s.faultInfo ms .read k cause ∧
      (∀ j ∈ pre, active m j w.bits = true → s.elementFault ms .read j = none) ∧
      LoadProgress s t d (loadRequestsOf s m w ms (pre ++ [k])) ∧
      ∀ j, j < lanes w.bits →
        elem t.q[d] j w.bits = if j ∈ pre then loadedValue s d m e w ms u j else s.lane d j w.bits

/-- One element done, then the loop over the rest. -/
theorem loadLoop_cons {s s' : State} {d : QReg} {m e : Mask} {w : Width} {ms : MSize} {u : Bool} {k : Nat}
    {es : List Nat} {b : Body} {v : QWord} {reqs : List MemRequest}
    (hs' : s' = { s with q := s.q.set d v, requests := s.requests ++ reqs })
    (hreqs : reqs = loadRequestsOf s m w ms [k])
    (hk : k < lanes w.bits) (hnotin : k ∉ es) (hfault : active m k w.bits = true → s.elementFault ms .read k = none)
    (hself : elem v k w.bits = loadedValue s d m e w ms u k)
    (hother : ∀ j, j ≠ k → j < lanes w.bits → elem v j w.bits = s.lane d j w.bits)
    (hes : ∀ j ∈ es, j < lanes w.bits)
    (h : LoadLoop s' d m e w ms u es b) : LoadLoop s d m e w ms u (k :: es) b := by
  subst hs'
  have hq : ((s.q.set d v)[d] : QWord) = v := getElem_set_self _ _ _
  have hlane : ∀ j, j ≠ k → j < lanes w.bits →
      ({ s with q := s.q.set d v, requests := s.requests ++ reqs } : State).lane d j w.bits = s.lane d j w.bits := by
    intro j hj hj'
    show elem ((s.q.set d v)[d]) j w.bits = _
    rw [hq]
    exact hother j hj hj'
  have hval : ∀ j, j ≠ k → j < lanes w.bits →
      loadedValue { s with q := s.q.set d v, requests := s.requests ++ reqs } d m e w ms u j =
        loadedValue s d m e w ms u j :=
    fun j hj hj' => loadedValue_congr (hlane j hj hj') rfl rfl rfl
  have hlanek : ({ s with q := s.q.set d v, requests := s.requests ++ reqs } : State).lane d k w.bits =
      loadedValue s d m e w ms u k := by
    show elem ((s.q.set d v)[d]) k w.bits = _
    rw [hq]
    exact hself
  have hprog : ∀ {t : State} {tail : List Nat},
      LoadProgress { s with q := s.q.set d v, requests := s.requests ++ reqs } t d (loadRequestsOf s m w ms tail) →
      LoadProgress s t d (loadRequestsOf s m w ms (k :: tail)) := by
    rintro t tail ⟨x, rfl⟩
    refine ⟨x, ?_⟩
    have hcat : loadRequestsOf s m w ms (k :: tail) = reqs ++ loadRequestsOf s m w ms tail := by
      rw [hreqs, loadRequestsOf, loadRequestsOf, loadRequestsOf, ← List.map_append, ← List.filter_append]
      rfl
    simp [hcat]
  cases b with
  | completed t res =>
    obtain ⟨h1, h2, h3, h4⟩ := h
    refine ⟨h1, hprog h2, ?_, ?_⟩
    · intro j hj
      rcases List.mem_cons.mp hj with rfl | hj
      · exact hfault
      · exact h3 j hj
    · intro j hj
      rw [h4 j hj]
      by_cases hjk : j = k
      · subst hjk
        rw [if_neg hnotin, if_pos List.mem_cons_self]
        exact hlanek
      · rw [hval j hjk hj, hlane j hjk hj]
        simp [hjk]
  | aborted t info =>
    obtain ⟨pre, k', post, cause, h1, h2, h3, h4, h5, h6, h7⟩ := h
    subst h1
    refine ⟨k :: pre, k', post, cause, rfl, h2, h3, h4, ?_, hprog h6, ?_⟩
    · intro j hj
      rcases List.mem_cons.mp hj with rfl | hj
      · exact hfault
      · exact h5 j hj
    · intro j hj
      rw [h7 j hj]
      by_cases hjk : j = k
      · subst hjk
        have : j ∉ pre := fun hp => hnotin (List.mem_append_left _ hp)
        rw [if_neg this, if_pos List.mem_cons_self]
        exact hlanek
      · rw [hval j hjk hj, hlane j hjk hj]
        simp [hjk]

/-- The element loop of a load does what `LoadLoop` says. -/
theorem loadElements_spec {w : Width} {ms : MSize} {u : Bool} {d : QReg} {m e : Mask}
    (hsub : ∀ k, active m k w.bits = true → active e k w.bits = true) :
    ∀ (es : List Nat) (s : State), es.Nodup → (∀ j ∈ es, j < lanes w.bits) →
      LoadLoop s d m e w ms u es (loadElements w ms u d m e es s)
  | [], s, _, _ => by
    refine ⟨rfl, loadProgress_refl s d, by simp, fun j _ => ?_⟩
    simp only [List.not_mem_nil, if_false]
    rfl
  | k :: es, s, hnd, hlt => by
    have hk : k < lanes w.bits := hlt k List.mem_cons_self
    have hnotin : k ∉ es := (List.nodup_cons.mp hnd).1
    have hnd' : es.Nodup := (List.nodup_cons.mp hnd).2
    have hlt' : ∀ j ∈ es, j < lanes w.bits := fun j hj => hlt j (List.mem_cons_of_mem _ hj)
    by_cases he : active e k w.bits = true
    · by_cases ha : active m k w.bits = true
      · cases hf : s.elementFault ms .read k with
        | none =>
          have hstep : loadElements w ms u d m e (k :: es) s = loadElements w ms u d m e es
              ((s.issue (.read (s.elementAddress ms k) ms s.ports.faultPc)).setQ d
                (loadedLane s.cfg.loadInactive m s.q[d] k w.bits
                  (extendElement u ms w.bits (s.elementValue ms k)))) := by
            simp only [loadElements, he, ha, hf, if_true]
          rw [hstep]
          refine loadLoop_cons (v := loadedLane s.cfg.loadInactive m s.q[d] k w.bits
              (extendElement u ms w.bits (s.elementValue ms k)))
            (reqs := [.read (s.elementAddress ms k) ms s.ports.faultPc]) rfl ?_ hk hnotin (fun _ => hf) ?_ ?_ hlt'
            (loadElements_spec hsub es _ hnd' hlt')
          · simp [loadRequestsOf, ha]
          · rw [elem_loadedLane_self _ _ _ _ _ _ hk, loadedValue, if_neg (by simp [he]), if_pos ha]
            cases s.cfg.loadInactive <;> rfl
          · intro j hj hj'
            exact elem_loadedLane_other _ _ _ _ _ hj hj'
        | some cause =>
          have hstep : loadElements w ms u d m e (k :: es) s =
              .aborted (s.issue (.read (s.elementAddress ms k) ms s.ports.faultPc)) (s.faultInfo ms .read k cause) := by
            simp only [loadElements, he, ha, hf, if_true]
          rw [hstep]
          refine ⟨[], k, es, cause, rfl, ha, hf, rfl, by simp, ⟨s.q[d], ?_⟩, ?_⟩
          · simp [loadRequestsOf, ha, State.issue]
          · intro j _
            simp only [List.not_mem_nil, if_false]
            rfl
      · have hstep : loadElements w ms u d m e (k :: es) s = loadElements w ms u d m e es
            (s.setQ d (skippedLane s.cfg.loadInactive s.q[d] k w.bits)) := by
          simp only [loadElements, he, ha, if_true, if_false, Bool.false_eq_true]
        rw [hstep]
        refine loadLoop_cons (v := skippedLane s.cfg.loadInactive s.q[d] k w.bits) (reqs := [])
          (by simp [State.setQ]) ?_ hk hnotin (fun h => absurd h ha) ?_ ?_ hlt' (loadElements_spec hsub es _ hnd' hlt')
        · simp [loadRequestsOf, ha]
        · rw [elem_skippedLane_self _ _ _ _ hk, loadedValue, if_neg (by simp [he]), if_neg ha]
          cases s.cfg.loadInactive <;> rfl
        · intro j hj hj'
          exact elem_skippedLane_other _ _ _ hj hj'
    · have ha : ¬ active m k w.bits = true := fun h => he (hsub k h)
      have hstep : loadElements w ms u d m e (k :: es) s = loadElements w ms u d m e es s := by
        simp only [loadElements, he, if_false, Bool.false_eq_true]
      rw [hstep]
      refine loadLoop_cons (v := s.q[d]) (reqs := []) (by simp) ?_ hk hnotin (fun h => absurd h ha) ?_
        (fun _ _ _ => rfl) hlt' (loadElements_spec hsub es _ hnd' hlt')
      · simp [loadRequestsOf, ha]
      · rw [loadedValue, if_pos (by simpa using he)]
        rfl

/-! ## The loop of a store -/

/-- The requests of a list of elements of a store: those of the active ones. -/
def storeRequestsOf (s : State) (d : QReg) (m : Mask) (w : Width) (ms : MSize) (es : List Nat) : List MemRequest :=
  (es.filter fun j => active m j w.bits).map fun j =>
    .write (s.elementAddress ms j) ms (s.storedValue w ms d j) s.ports.faultPc

/-- Memory after a list of elements is stored: canonical, the active elements' bytes in the order of MEM_ENDIAN, and
every other address as before. -/
def StoredElements (s : State) (mem : List Host.Cell) (d : QReg) (m : Mask) (w : Width) (ms : MSize)
    (es : List Nat) : Prop :=
  memWf mem = true ∧
    (∀ j ∈ es, active m j w.bits = true → ∀ i, i < ms.bytes →
      readByte mem (addrPlus (s.elementAddress ms j) i).toNat =
        memoryByte s.cfg.endian ms.bytes (s.storedValue w ms d j) i) ∧
    ∀ a, (∀ j ∈ es, active m j w.bits = true → ∀ i, i < ms.bytes →
      a ≠ (addrPlus (s.elementAddress ms j) i).toNat) → readByte mem a = readByte s.mem a

/-- What the element loop of a store gives: either no active element faults and all are stored, or one faults and
exactly the active ones before it are stored, its request being the last. -/
def StoreLoop (s : State) (d : QReg) (m : Mask) (w : Width) (ms : MSize) (es : List Nat) : Body → Prop
  | .completed t res =>
    res = none ∧ (∀ j ∈ es, active m j w.bits = true → s.elementFault ms .write j = none) ∧
      ∃ mem, t = { s with mem := mem, requests := s.requests ++ storeRequestsOf s d m w ms es } ∧
        StoredElements s mem d m w ms es
  | .aborted t info =>
    ∃ pre k post cause, es = pre ++ k :: post ∧ active m k w.bits = true ∧
      s.elementFault ms .write k = some cause ∧ info = s.faultInfo ms .write k cause ∧
      (∀ j ∈ pre, active m j w.bits = true → s.elementFault ms .write j = none) ∧
      ∃ mem, t = { s with mem := mem, requests := s.requests ++ storeRequestsOf s d m w ms (pre ++ [k]) } ∧
        StoredElements s mem d m w ms pre

/-- The bytes of two elements of one access lie at different addresses (R230). -/
theorem elementBytes_disjoint {s : State} {w : Width} {ms : MSize} {j k i i' : Nat} (hj : j < lanes w.bits)
    (hk : k < lanes w.bits) (hi : i < ms.bytes) (hi' : i' < ms.bytes)
    (h : (addrPlus (s.elementAddress ms j) i).toNat = (addrPlus (s.elementAddress ms k) i').toNat) : j = k ∧ i = i' := by
  have hl : lanes w.bits ≤ 16 := by cases w <;> decide
  have hb : ms.bytes ≤ 4 := by cases ms <;> decide
  have hjm : j * ms.bytes ≤ 15 * 4 := Nat.mul_le_mul (by omega) hb
  have hkm : k * ms.bytes ≤ 15 * 4 := Nat.mul_le_mul (by omega) hb
  simp only [State.elementAddress, addrPlus_addrPlus, BitVec.toNat_inj] at h
  have h' := addrPlus_inj (by omega) (by omega) h
  cases ms <;> simp only [MSize.bytes] at h' hi hi' <;> omega

/-- One element stored, then memory after the rest. -/
theorem storedElements_cons {s : State} {mem : List Host.Cell} {d : QReg} {m : Mask} {w : Width} {ms : MSize} {k : Nat}
    {es : List Nat} (hwf : memWf s.mem = true) (hk : k < lanes w.bits) (hlt : ∀ j ∈ es, j < lanes w.bits)
    (hnotin : k ∉ es) (ha : active m k w.bits = true)
    (h : StoredElements { s with
        mem := writeValue s.cfg.endian s.mem (s.elementAddress ms k) ms.bytes (s.storedValue w ms d k) } mem d m w ms es) :
    StoredElements s mem d m w ms (k :: es) := by
  have hb : ms.bytes ≤ 2 ^ 32 := by cases ms <;> decide
  obtain ⟨h1, h2, h3⟩ := h
  refine ⟨h1, ?_, ?_⟩
  · intro j hj haj i hi
    rcases List.mem_cons.mp hj with rfl | hj
    · rw [h3 _ ?_]
      · exact readByte_writeValue_inside _ _ _ _ _ hwf hb hi
      · intro j' hj' _ i' hi' he
        have := elementBytes_disjoint hk (hlt j' hj') hi hi' he
        exact hnotin (this.1 ▸ hj')
    · exact h2 j hj haj i hi
  · intro a hout
    rw [h3 a fun j hj haj i hi => hout j (List.mem_cons_of_mem _ hj) haj i hi]
    exact readByte_writeValue_outside _ _ _ _ _ hwf fun i hi => hout k List.mem_cons_self ha i hi

/-- The element loop of a store does what `StoreLoop` says. -/
theorem storeElements_spec {w : Width} {ms : MSize} {d : QReg} {m : Mask} :
    ∀ (es : List Nat) (s : State), memWf s.mem = true → es.Nodup → (∀ j ∈ es, j < lanes w.bits) →
      StoreLoop s d m w ms es (storeElements w ms d m es s)
  | [], s, hwf, _, _ => by
    refine ⟨rfl, by simp, s.mem, ?_, hwf, by simp, fun _ _ => rfl⟩
    simp [storeRequestsOf]
  | k :: es, s, hwf, hnd, hlt => by
    have hk : k < lanes w.bits := hlt k List.mem_cons_self
    have hnotin : k ∉ es := (List.nodup_cons.mp hnd).1
    have hnd' : es.Nodup := (List.nodup_cons.mp hnd).2
    have hlt' : ∀ j ∈ es, j < lanes w.bits := fun j hj => hlt j (List.mem_cons_of_mem _ hj)
    by_cases ha : active m k w.bits = true
    · cases hf : s.elementFault ms .write k with
      | some cause =>
        simp only [storeElements, ha, hf, if_true]
        refine ⟨[], k, es, cause, rfl, ha, hf, rfl, by simp, s.mem, ?_, hwf, by simp, fun _ _ => rfl⟩
        simp [storeRequestsOf, ha, State.issue]
      | none =>
        simp only [storeElements, ha, hf, if_true]
        have hrec := storeElements_spec (w := w) (ms := ms) (d := d) (m := m) es
          ((s.issue (.write (s.elementAddress ms k) ms (s.storedValue w ms d k) s.ports.faultPc)).setMem
            (writeValue s.cfg.endian s.mem (s.elementAddress ms k) ms.bytes (s.storedValue w ms d k)))
          (writeValue_wf _ _ _ _ hwf) hnd' hlt'
        have hcat : ∀ tail, storeRequestsOf s d m w ms (k :: tail) =
            .write (s.elementAddress ms k) ms (s.storedValue w ms d k) s.ports.faultPc ::
              storeRequestsOf s d m w ms tail := by
          intro tail
          simp [storeRequestsOf, ha]
        revert hrec
        generalize storeElements w ms d m es _ = b
        intro hrec
        cases b with
        | completed t res =>
          obtain ⟨h1, h2, mem, rfl, h3⟩ := hrec
          refine ⟨h1, ?_, mem, ?_, storedElements_cons hwf hk hlt' hnotin ha h3⟩
          · intro j hj
            rcases List.mem_cons.mp hj with rfl | hj
            · exact fun _ => hf
            · exact h2 j hj
          · rw [hcat]
            simp only [State.setMem, State.issue, List.append_assoc, List.cons_append, List.nil_append]
            rfl
        | aborted t info =>
          obtain ⟨pre, k', post, cause, h1, h2, h3, h4, h5, mem, rfl, h6⟩ := hrec
          subst h1
          have hnp : k ∉ pre := fun hp => hnotin (List.mem_append_left _ hp)
          have hltp : ∀ j ∈ pre, j < lanes w.bits := fun j hj => hlt' j (List.mem_append_left _ hj)
          refine ⟨k :: pre, k', post, cause, rfl, h2, h3, h4, ?_, mem, ?_,
            storedElements_cons hwf hk hltp hnp ha h6⟩
          · intro j hj
            rcases List.mem_cons.mp hj with rfl | hj
            · exact fun _ => hf
            · exact h5 j hj
          · rw [List.cons_append, hcat]
            simp only [State.setMem, State.issue, List.append_assoc, List.cons_append, List.nil_append]
            rfl
    · have hcat : ∀ tail, storeRequestsOf s d m w ms (k :: tail) = storeRequestsOf s d m w ms tail := by
        intro tail
        simp [storeRequestsOf, ha]
      have hmem : ∀ {mem : List Host.Cell} {tail : List Nat}, StoredElements s mem d m w ms tail →
          StoredElements s mem d m w ms (k :: tail) := by
        rintro mem tail ⟨h1, h2, h3⟩
        refine ⟨h1, ?_, fun a hout => h3 a fun j hj => hout j (List.mem_cons_of_mem _ hj)⟩
        intro j hj haj
        rcases List.mem_cons.mp hj with rfl | hj
        · exact absurd haj ha
        · exact h2 j hj haj
      simp only [storeElements, ha, if_false, Bool.false_eq_true]
      have hrec := storeElements_spec (w := w) (ms := ms) (d := d) (m := m) es s hwf hnd' hlt'
      revert hrec
      generalize storeElements w ms d m es s = b
      intro hrec
      cases b with
      | completed t res =>
        obtain ⟨h1, h2, mem, h3, h4⟩ := hrec
        refine ⟨h1, ?_, mem, by rw [hcat]; exact h3, hmem h4⟩
        intro j hj
        rcases List.mem_cons.mp hj with rfl | hj
        · exact fun h => absurd h ha
        · exact h2 j hj
      | aborted t info =>
        obtain ⟨pre, k', post, cause, h1, h2, h3, h4, h5, mem, h6, h7⟩ := hrec
        subst h1
        refine ⟨k :: pre, k', post, cause, rfl, h2, h3, h4, ?_, mem, by rw [List.cons_append, hcat]; exact h6, hmem h7⟩
        intro j hj
        rcases List.mem_cons.mp hj with rfl | hj
        · exact fun h => absurd h ha
        · exact h5 j hj

end Sys2Proof.Machine
end

