-- ==== Sys2Proof/Laws/Decode.lean ====
section
/-! SUPPORT. The fields of a descriptor word and the word of its fields give each other back (30_encoding.md R81). -/

namespace Sys2Proof

/-- The fields of the word of some fields are those fields: every bit has its place. -/
theorem ofWord_toWord (f : Fields) : Fields.ofWord f.toWord = f := by
  obtain ⟨op, size, u, qd, qn, qm, s, msize, rsv⟩ := f
  simp only [Fields.ofWord, Fields.toWord, Fields.mk.injEq]
  refine ⟨?_, ?_, ?_, ?_, ?_, ?_, ?_, ?_, ?_⟩
  case refine_3 => simp only [BitVec.getLsbD_append]; simp
  case refine_7 => simp only [BitVec.getLsbD_append]; simp
  all_goals
    apply BitVec.eq_of_getLsbD_eq
    intro i hi
    simp only [BitVec.getLsbD_extractLsb', BitVec.getLsbD_append, hi, decide_true, Bool.true_and, Nat.zero_add]
  · simp [hi]
  · simp only [show ¬ 6 + i < 6 by omega, if_false, show 6 + i - 6 = i by omega, hi, if_true]
  · simp only [show ¬ 9 + i < 6 by omega, show ¬ 9 + i - 6 < 2 by omega, show ¬ 9 + i - 6 - 2 < 1 by omega,
      show 9 + i - 6 - 2 - 1 = i by omega, if_false, hi, if_true]
  · simp only [show ¬ 12 + i < 6 by omega, show ¬ 12 + i - 6 < 2 by omega, show ¬ 12 + i - 6 - 2 < 1 by omega,
      show ¬ 12 + i - 6 - 2 - 1 < 3 by omega, show 12 + i - 6 - 2 - 1 - 3 = i by omega, if_false, hi, if_true]
  · simp only [show ¬ 15 + i < 6 by omega, show ¬ 15 + i - 6 < 2 by omega, show ¬ 15 + i - 6 - 2 < 1 by omega,
      show ¬ 15 + i - 6 - 2 - 1 < 3 by omega, show ¬ 15 + i - 6 - 2 - 1 - 3 < 3 by omega,
      show 15 + i - 6 - 2 - 1 - 3 - 3 = i by omega, if_false, hi, if_true]
  · simp only [show ¬ 19 + i < 6 by omega, show ¬ 19 + i - 6 < 2 by omega, show ¬ 19 + i - 6 - 2 < 1 by omega,
      show ¬ 19 + i - 6 - 2 - 1 < 3 by omega, show ¬ 19 + i - 6 - 2 - 1 - 3 < 3 by omega,
      show ¬ 19 + i - 6 - 2 - 1 - 3 - 3 < 3 by omega, show ¬ 19 + i - 6 - 2 - 1 - 3 - 3 - 3 < 1 by omega,
      show 19 + i - 6 - 2 - 1 - 3 - 3 - 3 - 1 = i by omega, if_false, hi, if_true]
  · simp only [show ¬ 21 + i < 6 by omega, show ¬ 21 + i - 6 < 2 by omega, show ¬ 21 + i - 6 - 2 < 1 by omega,
      show ¬ 21 + i - 6 - 2 - 1 < 3 by omega, show ¬ 21 + i - 6 - 2 - 1 - 3 < 3 by omega,
      show ¬ 21 + i - 6 - 2 - 1 - 3 - 3 < 3 by omega, show ¬ 21 + i - 6 - 2 - 1 - 3 - 3 - 3 < 1 by omega,
      show ¬ 21 + i - 6 - 2 - 1 - 3 - 3 - 3 - 1 < 2 by omega,
      show 21 + i - 6 - 2 - 1 - 3 - 3 - 3 - 1 - 2 = i by omega, if_false]

/-- A bit of a field of a word is the word's bit at the field's place. -/
theorem fieldBit (w : Word) {n j start i : Nat} (h1 : j < n) (h2 : start + j = i) :
    (decide (j < n) && w.getLsbD (start + j)) = w.getLsbD i := by
  rw [decide_eq_true h1, h2, Bool.true_and]

/-- A one-bit field of a word is the word's bit at the field's place. -/
theorem flagBit (w : Word) {j start i : Nat} (h1 : j = 0) (h2 : start = i) :
    (decide (j = 0) && w.getLsbD start) = w.getLsbD i := by
  rw [decide_eq_true h1, h2, Bool.true_and]

/-- The word of the fields of a word is that word: every bit belongs to a field. -/
theorem toWord_ofWord (w : Word) : (Fields.ofWord w).toWord = w := by
  apply BitVec.eq_of_getLsbD_eq
  intro i hi
  simp only [Fields.toWord, Fields.ofWord, BitVec.getLsbD_append, BitVec.getLsbD_extractLsb', BitVec.getLsbD_ofBool]
  repeat' split
  all_goals first
    | exact fieldBit w (by omega) (by omega)
    | exact flagBit w (by omega) (by omega)

/-- The decoder on a word, from its fields. -/
theorem decode_toWord (f : Fields) : decode f.toWord = decodeFields f := by
  rw [decode, ofWord_toWord]

end Sys2Proof
end

