-- ==== Sys2Proof/Laws/Exec.lean ====
section
/-! SUPPORT. Every instruction is one of seven shared operations: the case split that a statement about all instructions
needs, said once. -/

namespace Sys2Proof.Machine

/-- The shared operation an instruction is, at a state. -/
inductive ExecShape (s : State) (i : Instr) : Prop where
  /-- A vector operation that writes no flag but QC. -/
  | vector (d : QReg) (effects : Mask → Effects) (h : exec i s = vectorOp d effects s)
      (hc : ∀ m, (effects m).carry = none)
  /-- A carry operation. -/
  | carry (cin : Bool) (inv : Word) (always : Bool) (d n m : QReg) (h : exec i s = carryOp cin inv always d n m s)
      (hi : i ∈ [.vadcI32 d n m, .vadciI32 d n m, .vsbcI32 d n m, .vsbciI32 d n m])
  /-- A reduction. -/
  | reduce (value : Mask → Int) (h : exec i s = reduceOp value s)
  /-- A load. -/
  | load (w : Width) (ms : MSize) (u : Bool) (d : QReg) (h : exec i s = loadOp w ms u d s)
  /-- A store. -/
  | store (w : Width) (ms : MSize) (d : QReg) (h : exec i s = storeOp w ms d s)
  /-- MSR. -/
  | write (r : Sysreg) (h : exec i s = writeState r s)
      (hi : (i, r) ∈ [(.msrVpr, .vpr), (.msrStatus, .status), (.msrLoopcount, .loopcount), (.msrLtpsize, .ltpsize),
        (.msrEci, .eci)])
  /-- MRS. -/
  | read (r : Sysreg) (h : exec i s = readState r s)
      (hi : (i, r) ∈ [(.mrsVpr, .vpr), (.mrsStatus, .status), (.mrsLoopcount, .loopcount), (.mrsLtpsize, .ltpsize),
        (.mrsEci, .eci)])

theorem bitwiseShape {s : State} {i : Instr} {f : QWord → QWord → QWord} {d n m : QReg}
    (h : exec i s = bitwiseOp f d n m s) : ExecShape s i := .vector _ _ h fun _ => rfl

theorem laneShape {s : State} {i : Instr} {f : Nat → Bool → Int → Int → Int × Bool} {w : Width} {u : Bool}
    {d n : QReg} {src : Operand2} (h : exec i s = laneOp f w u d n src s) : ExecShape s i := .vector _ _ h fun _ => rfl

theorem shiftShape {s : State} {i : Instr} {round saturate : Bool} {w : Width} {u : Bool} {d n : QReg}
    {src : Operand2} (h : exec i s = shiftOp round saturate w u d n src s) : ExecShape s i := .vector _ _ h fun _ => rfl

theorem widenShape {s : State} {i : Instr} {t : Nat} {w : Width} {u : Bool} {d n m : QReg}
    (h : exec i s = widenMulOp t w u d n m s) : ExecShape s i := .vector _ _ h fun _ => rfl

theorem rotateShape {s : State} {i : Instr} {by90 : Bool} {w : Width} {d n m : QReg}
    (h : exec i s = rotateAddOp by90 w d n m s) : ExecShape s i := .vector _ _ h fun _ => rfl

theorem dualHighShape {s : State} {i : Instr} {exchange sub round : Bool} {w : Width} {d n m : QReg}
    (h : exec i s = dualHighOp exchange sub round w d n m s) : ExecShape s i := .vector _ _ h fun _ => rfl

theorem dualAccShape {s : State} {i : Instr} {x : Nat} {sub : Bool} {w : Width} {u : Bool} {n m : QReg}
    (h : exec i s = dualAccOp x sub w u n m s) : ExecShape s i := .reduce _ h

theorem roundDualShape {s : State} {i : Instr} {x : Nat} {sub u : Bool} {n m : QReg}
    (h : exec i s = roundDualAccOp x sub u n m s) : ExecShape s i := .reduce _ h

theorem sumShape {s : State} {i : Instr} {w : Width} {u : Bool} {m : QReg}
    (h : exec i s = sumOp w u m s) : ExecShape s i := .reduce _ h

/-- Every instruction has its shape. -/
theorem exec_shape (s : State) : ∀ i : Instr, ExecShape s i
  | .vand _ _ _ => bitwiseShape (f := fun x y => x &&& y) rfl
  | .vbic _ _ _ => bitwiseShape (f := fun x y => x &&& ~~~y) rfl
  | .vorr _ _ _ => bitwiseShape (f := fun x y => x ||| y) rfl
  | .vorn _ _ _ => bitwiseShape (f := fun x y => x ||| ~~~y) rfl
  | .veor _ _ _ => bitwiseShape (f := fun x y => x ^^^ y) rfl
  | .vaddI8 _ _ _ => laneShape rfl
  | .vaddI8Scalar _ _ => laneShape rfl
  | .vaddI16 _ _ _ => laneShape rfl
  | .vaddI16Scalar _ _ => laneShape rfl
  | .vaddI32 _ _ _ => laneShape rfl
  | .vaddI32Scalar _ _ => laneShape rfl
  | .vsubI8 _ _ _ => laneShape rfl
  | .vsubI8Scalar _ _ => laneShape rfl
  | .vsubI16 _ _ _ => laneShape rfl
  | .vsubI16Scalar _ _ => laneShape rfl
  | .vsubI32 _ _ _ => laneShape rfl
  | .vsubI32Scalar _ _ => laneShape rfl
  | .vmulI8 _ _ _ => laneShape rfl
  | .vmulI8Scalar _ _ => laneShape rfl
  | .vmulI16 _ _ _ => laneShape rfl
  | .vmulI16Scalar _ _ => laneShape rfl
  | .vmulI32 _ _ _ => laneShape rfl
  | .vmulI32Scalar _ _ => laneShape rfl
  | .vmaxS8 _ _ _ => laneShape rfl
  | .vmaxU8 _ _ _ => laneShape rfl
  | .vmaxS16 _ _ _ => laneShape rfl
  | .vmaxU16 _ _ _ => laneShape rfl
  | .vmaxS32 _ _ _ => laneShape rfl
  | .vmaxU32 _ _ _ => laneShape rfl
  | .vminS8 _ _ _ => laneShape rfl
  | .vminU8 _ _ _ => laneShape rfl
  | .vminS16 _ _ _ => laneShape rfl
  | .vminU16 _ _ _ => laneShape rfl
  | .vminS32 _ _ _ => laneShape rfl
  | .vminU32 _ _ _ => laneShape rfl
  | .vabdS8 _ _ _ => laneShape rfl
  | .vabdU8 _ _ _ => laneShape rfl
  | .vabdS16 _ _ _ => laneShape rfl
  | .vabdU16 _ _ _ => laneShape rfl
  | .vabdS32 _ _ _ => laneShape rfl
  | .vabdU32 _ _ _ => laneShape rfl
  | .vhaddS8 _ _ _ => laneShape rfl
  | .vhaddS8Scalar _ _ => laneShape rfl
  | .vhaddU8 _ _ _ => laneShape rfl
  | .vhaddU8Scalar _ _ => laneShape rfl
  | .vhaddS16 _ _ _ => laneShape rfl
  | .vhaddS16Scalar _ _ => laneShape rfl
  | .vhaddU16 _ _ _ => laneShape rfl
  | .vhaddU16Scalar _ _ => laneShape rfl
  | .vhaddS32 _ _ _ => laneShape rfl
  | .vhaddS32Scalar _ _ => laneShape rfl
  | .vhaddU32 _ _ _ => laneShape rfl
  | .vhaddU32Scalar _ _ => laneShape rfl
  | .vhsubS8 _ _ _ => laneShape rfl
  | .vhsubS8Scalar _ _ => laneShape rfl
  | .vhsubU8 _ _ _ => laneShape rfl
  | .vhsubU8Scalar _ _ => laneShape rfl
  | .vhsubS16 _ _ _ => laneShape rfl
  | .vhsubS16Scalar _ _ => laneShape rfl
  | .vhsubU16 _ _ _ => laneShape rfl
  | .vhsubU16Scalar _ _ => laneShape rfl
  | .vhsubS32 _ _ _ => laneShape rfl
  | .vhsubS32Scalar _ _ => laneShape rfl
  | .vhsubU32 _ _ _ => laneShape rfl
  | .vhsubU32Scalar _ _ => laneShape rfl
  | .vqaddS8 _ _ _ => laneShape rfl
  | .vqaddS8Scalar _ _ => laneShape rfl
  | .vqaddU8 _ _ _ => laneShape rfl
  | .vqaddU8Scalar _ _ => laneShape rfl
  | .vqaddS16 _ _ _ => laneShape rfl
  | .vqaddS16Scalar _ _ => laneShape rfl
  | .vqaddU16 _ _ _ => laneShape rfl
  | .vqaddU16Scalar _ _ => laneShape rfl
  | .vqaddS32 _ _ _ => laneShape rfl
  | .vqaddS32Scalar _ _ => laneShape rfl
  | .vqaddU32 _ _ _ => laneShape rfl
  | .vqaddU32Scalar _ _ => laneShape rfl
  | .vqsubS8 _ _ _ => laneShape rfl
  | .vqsubS8Scalar _ _ => laneShape rfl
  | .vqsubU8 _ _ _ => laneShape rfl
  | .vqsubU8Scalar _ _ => laneShape rfl
  | .vqsubS16 _ _ _ => laneShape rfl
  | .vqsubS16Scalar _ _ => laneShape rfl
  | .vqsubU16 _ _ _ => laneShape rfl
  | .vqsubU16Scalar _ _ => laneShape rfl
  | .vqsubS32 _ _ _ => laneShape rfl
  | .vqsubS32Scalar _ _ => laneShape rfl
  | .vqsubU32 _ _ _ => laneShape rfl
  | .vqsubU32Scalar _ _ => laneShape rfl
  | .vqdmulhS8 _ _ _ => laneShape rfl
  | .vqdmulhS8Scalar _ _ => laneShape rfl
  | .vqdmulhS16 _ _ _ => laneShape rfl
  | .vqdmulhS16Scalar _ _ => laneShape rfl
  | .vqdmulhS32 _ _ _ => laneShape rfl
  | .vqdmulhS32Scalar _ _ => laneShape rfl
  | .vqrdmulhS8 _ _ _ => laneShape rfl
  | .vqrdmulhS8Scalar _ _ => laneShape rfl
  | .vqrdmulhS16 _ _ _ => laneShape rfl
  | .vqrdmulhS16Scalar _ _ => laneShape rfl
  | .vqrdmulhS32 _ _ _ => laneShape rfl
  | .vqrdmulhS32Scalar _ _ => laneShape rfl
  | .vshlS8 _ _ _ => shiftShape rfl
  | .vshlS8Scalar _ _ => shiftShape rfl
  | .vshlU8 _ _ _ => shiftShape rfl
  | .vshlU8Scalar _ _ => shiftShape rfl
  | .vshlS16 _ _ _ => shiftShape rfl
  | .vshlS16Scalar _ _ => shiftShape rfl
  | .vshlU16 _ _ _ => shiftShape rfl
  | .vshlU16Scalar _ _ => shiftShape rfl
  | .vshlS32 _ _ _ => shiftShape rfl
  | .vshlS32Scalar _ _ => shiftShape rfl
  | .vshlU32 _ _ _ => shiftShape rfl
  | .vshlU32Scalar _ _ => shiftShape rfl
  | .vrshlS8 _ _ _ => shiftShape rfl
  | .vrshlS8Scalar _ _ => shiftShape rfl
  | .vrshlU8 _ _ _ => shiftShape rfl
  | .vrshlU8Scalar _ _ => shiftShape rfl
  | .vrshlS16 _ _ _ => shiftShape rfl
  | .vrshlS16Scalar _ _ => shiftShape rfl
  | .vrshlU16 _ _ _ => shiftShape rfl
  | .vrshlU16Scalar _ _ => shiftShape rfl
  | .vrshlS32 _ _ _ => shiftShape rfl
  | .vrshlS32Scalar _ _ => shiftShape rfl
  | .vrshlU32 _ _ _ => shiftShape rfl
  | .vrshlU32Scalar _ _ => shiftShape rfl
  | .vqshlS8 _ _ _ => shiftShape rfl
  | .vqshlS8Scalar _ _ => shiftShape rfl
  | .vqshlU8 _ _ _ => shiftShape rfl
  | .vqshlU8Scalar _ _ => shiftShape rfl
  | .vqshlS16 _ _ _ => shiftShape rfl
  | .vqshlS16Scalar _ _ => shiftShape rfl
  | .vqshlU16 _ _ _ => shiftShape rfl
  | .vqshlU16Scalar _ _ => shiftShape rfl
  | .vqshlS32 _ _ _ => shiftShape rfl
  | .vqshlS32Scalar _ _ => shiftShape rfl
  | .vqshlU32 _ _ _ => shiftShape rfl
  | .vqshlU32Scalar _ _ => shiftShape rfl
  | .vqrshlS8 _ _ _ => shiftShape rfl
  | .vqrshlS8Scalar _ _ => shiftShape rfl
  | .vqrshlU8 _ _ _ => shiftShape rfl
  | .vqrshlU8Scalar _ _ => shiftShape rfl
  | .vqrshlS16 _ _ _ => shiftShape rfl
  | .vqrshlS16Scalar _ _ => shiftShape rfl
  | .vqrshlU16 _ _ _ => shiftShape rfl
  | .vqrshlU16Scalar _ _ => shiftShape rfl
  | .vqrshlS32 _ _ _ => shiftShape rfl
  | .vqrshlS32Scalar _ _ => shiftShape rfl
  | .vqrshlU32 _ _ _ => shiftShape rfl
  | .vqrshlU32Scalar _ _ => shiftShape rfl
  | .vmullbS8 _ _ _ => widenShape rfl
  | .vmullbU8 _ _ _ => widenShape rfl
  | .vmullbS16 _ _ _ => widenShape rfl
  | .vmullbU16 _ _ _ => widenShape rfl
  | .vmullbS32 _ _ _ => widenShape rfl
  | .vmullbU32 _ _ _ => widenShape rfl
  | .vmulltS8 _ _ _ => widenShape rfl
  | .vmulltU8 _ _ _ => widenShape rfl
  | .vmulltS16 _ _ _ => widenShape rfl
  | .vmulltU16 _ _ _ => widenShape rfl
  | .vmulltS32 _ _ _ => widenShape rfl
  | .vmulltU32 _ _ _ => widenShape rfl
  | .vcaddI8Rot90 _ _ _ => rotateShape rfl
  | .vcaddI16Rot90 _ _ _ => rotateShape rfl
  | .vcaddI32Rot90 _ _ _ => rotateShape rfl
  | .vcaddI8Rot270 _ _ _ => rotateShape rfl
  | .vcaddI16Rot270 _ _ _ => rotateShape rfl
  | .vcaddI32Rot270 _ _ _ => rotateShape rfl
  | .vqdmladhS8 _ _ _ => dualHighShape rfl
  | .vqdmladhS16 _ _ _ => dualHighShape rfl
  | .vqdmladhS32 _ _ _ => dualHighShape rfl
  | .vqdmladhxS8 _ _ _ => dualHighShape rfl
  | .vqdmladhxS16 _ _ _ => dualHighShape rfl
  | .vqdmladhxS32 _ _ _ => dualHighShape rfl
  | .vqrdmladhS8 _ _ _ => dualHighShape rfl
  | .vqrdmladhS16 _ _ _ => dualHighShape rfl
  | .vqrdmladhS32 _ _ _ => dualHighShape rfl
  | .vqrdmladhxS8 _ _ _ => dualHighShape rfl
  | .vqrdmladhxS16 _ _ _ => dualHighShape rfl
  | .vqrdmladhxS32 _ _ _ => dualHighShape rfl
  | .vqdmlsdhS8 _ _ _ => dualHighShape rfl
  | .vqdmlsdhS16 _ _ _ => dualHighShape rfl
  | .vqdmlsdhS32 _ _ _ => dualHighShape rfl
  | .vqdmlsdhxS8 _ _ _ => dualHighShape rfl
  | .vqdmlsdhxS16 _ _ _ => dualHighShape rfl
  | .vqdmlsdhxS32 _ _ _ => dualHighShape rfl
  | .vqrdmlsdhS8 _ _ _ => dualHighShape rfl
  | .vqrdmlsdhS16 _ _ _ => dualHighShape rfl
  | .vqrdmlsdhS32 _ _ _ => dualHighShape rfl
  | .vqrdmlsdhxS8 _ _ _ => dualHighShape rfl
  | .vqrdmlsdhxS16 _ _ _ => dualHighShape rfl
  | .vqrdmlsdhxS32 _ _ _ => dualHighShape rfl
  | .vadcI32 _ _ _ => .carry _ _ _ _ _ _ rfl (by simp)
  | .vadciI32 _ _ _ => .carry _ _ _ _ _ _ rfl (by simp)
  | .vsbcI32 _ _ _ => .carry _ _ _ _ _ _ rfl (by simp)
  | .vsbciI32 _ _ _ => .carry _ _ _ _ _ _ rfl (by simp)
  | .vmladavS8 _ _ => dualAccShape rfl
  | .vmladavU8 _ _ => dualAccShape rfl
  | .vmladavS16 _ _ => dualAccShape rfl
  | .vmladavU16 _ _ => dualAccShape rfl
  | .vmladavS32 _ _ => dualAccShape rfl
  | .vmladavU32 _ _ => dualAccShape rfl
  | .vmladavxS8 _ _ => dualAccShape rfl
  | .vmladavxS16 _ _ => dualAccShape rfl
  | .vmladavxS32 _ _ => dualAccShape rfl
  | .vmlsdavS8 _ _ => dualAccShape rfl
  | .vmlsdavS16 _ _ => dualAccShape rfl
  | .vmlsdavS32 _ _ => dualAccShape rfl
  | .vmlsdavxS8 _ _ => dualAccShape rfl
  | .vmlsdavxS16 _ _ => dualAccShape rfl
  | .vmlsdavxS32 _ _ => dualAccShape rfl
  | .vrmlaldavhS32 _ _ => roundDualShape rfl
  | .vrmlaldavhU32 _ _ => roundDualShape rfl
  | .vrmlaldavhxS32 _ _ => roundDualShape rfl
  | .vrmlsldavhS32 _ _ => roundDualShape rfl
  | .vrmlsldavhxS32 _ _ => roundDualShape rfl
  | .vaddvS8 _ => sumShape rfl
  | .vaddvU8 _ => sumShape rfl
  | .vaddvS16 _ => sumShape rfl
  | .vaddvU16 _ => sumShape rfl
  | .vaddvS32 _ => sumShape rfl
  | .vaddvU32 _ => sumShape rfl
  | .vldrb8 _ => .load _ _ _ _ rfl
  | .vldrbS16 _ => .load _ _ _ _ rfl
  | .vldrbU16 _ => .load _ _ _ _ rfl
  | .vldrh16 _ => .load _ _ _ _ rfl
  | .vldrbS32 _ => .load _ _ _ _ rfl
  | .vldrbU32 _ => .load _ _ _ _ rfl
  | .vldrhS32 _ => .load _ _ _ _ rfl
  | .vldrhU32 _ => .load _ _ _ _ rfl
  | .vldrw32 _ => .load _ _ _ _ rfl
  | .vstrb8 _ => .store _ _ _ rfl
  | .vstrb16 _ => .store _ _ _ rfl
  | .vstrh16 _ => .store _ _ _ rfl
  | .vstrb32 _ => .store _ _ _ rfl
  | .vstrh32 _ => .store _ _ _ rfl
  | .vstrw32 _ => .store _ _ _ rfl
  | .msrVpr => .write _ rfl (by simp)
  | .msrStatus => .write _ rfl (by simp)
  | .msrLoopcount => .write _ rfl (by simp)
  | .msrLtpsize => .write _ rfl (by simp)
  | .msrEci => .write _ rfl (by simp)
  | .mrsVpr => .read _ rfl (by simp)
  | .mrsStatus => .read _ rfl (by simp)
  | .mrsLoopcount => .read _ rfl (by simp)
  | .mrsLtpsize => .read _ rfl (by simp)
  | .mrsEci => .read _ rfl (by simp)

end Sys2Proof.Machine
end

