-- ==== Sys2Proof/Laws/PerInstr.lean ====
section
/-! SUPPORT. The per-instruction family FieldsRoundTrip: decoding the nine fields of an operation gives the operation
back (30_encoding.md R81, R90). With `ofWord_toWord` it carries over to words. -/

namespace Sys2Proof.Laws.FieldsRoundTrip

/-- Decoding an operation's fields gives that operation, with every operand. -/
def Statement (i : Instr) : Prop := decodeFields i.fields = .ok i

theorem vand (d n m : QReg) : Statement (.vand d n m) := rfl

theorem vbic (d n m : QReg) : Statement (.vbic d n m) := rfl

theorem vorr (d n m : QReg) : Statement (.vorr d n m) := rfl

theorem vorn (d n m : QReg) : Statement (.vorn d n m) := rfl

theorem veor (d n m : QReg) : Statement (.veor d n m) := rfl

theorem vaddI8 (d n m : QReg) : Statement (.vaddI8 d n m) := rfl

theorem vaddI8Scalar (d n : QReg) : Statement (.vaddI8Scalar d n) := rfl

theorem vaddI16 (d n m : QReg) : Statement (.vaddI16 d n m) := rfl

theorem vaddI16Scalar (d n : QReg) : Statement (.vaddI16Scalar d n) := rfl

theorem vaddI32 (d n m : QReg) : Statement (.vaddI32 d n m) := rfl

theorem vaddI32Scalar (d n : QReg) : Statement (.vaddI32Scalar d n) := rfl

theorem vsubI8 (d n m : QReg) : Statement (.vsubI8 d n m) := rfl

theorem vsubI8Scalar (d n : QReg) : Statement (.vsubI8Scalar d n) := rfl

theorem vsubI16 (d n m : QReg) : Statement (.vsubI16 d n m) := rfl

theorem vsubI16Scalar (d n : QReg) : Statement (.vsubI16Scalar d n) := rfl

theorem vsubI32 (d n m : QReg) : Statement (.vsubI32 d n m) := rfl

theorem vsubI32Scalar (d n : QReg) : Statement (.vsubI32Scalar d n) := rfl

theorem vmulI8 (d n m : QReg) : Statement (.vmulI8 d n m) := rfl

theorem vmulI8Scalar (d n : QReg) : Statement (.vmulI8Scalar d n) := rfl

theorem vmulI16 (d n m : QReg) : Statement (.vmulI16 d n m) := rfl

theorem vmulI16Scalar (d n : QReg) : Statement (.vmulI16Scalar d n) := rfl

theorem vmulI32 (d n m : QReg) : Statement (.vmulI32 d n m) := rfl

theorem vmulI32Scalar (d n : QReg) : Statement (.vmulI32Scalar d n) := rfl

theorem vmaxS8 (d n m : QReg) : Statement (.vmaxS8 d n m) := rfl

theorem vmaxU8 (d n m : QReg) : Statement (.vmaxU8 d n m) := rfl

theorem vmaxS16 (d n m : QReg) : Statement (.vmaxS16 d n m) := rfl

theorem vmaxU16 (d n m : QReg) : Statement (.vmaxU16 d n m) := rfl

theorem vmaxS32 (d n m : QReg) : Statement (.vmaxS32 d n m) := rfl

theorem vmaxU32 (d n m : QReg) : Statement (.vmaxU32 d n m) := rfl

theorem vminS8 (d n m : QReg) : Statement (.vminS8 d n m) := rfl

theorem vminU8 (d n m : QReg) : Statement (.vminU8 d n m) := rfl

theorem vminS16 (d n m : QReg) : Statement (.vminS16 d n m) := rfl

theorem vminU16 (d n m : QReg) : Statement (.vminU16 d n m) := rfl

theorem vminS32 (d n m : QReg) : Statement (.vminS32 d n m) := rfl

theorem vminU32 (d n m : QReg) : Statement (.vminU32 d n m) := rfl

theorem vabdS8 (d n m : QReg) : Statement (.vabdS8 d n m) := rfl

theorem vabdU8 (d n m : QReg) : Statement (.vabdU8 d n m) := rfl

theorem vabdS16 (d n m : QReg) : Statement (.vabdS16 d n m) := rfl

theorem vabdU16 (d n m : QReg) : Statement (.vabdU16 d n m) := rfl

theorem vabdS32 (d n m : QReg) : Statement (.vabdS32 d n m) := rfl

theorem vabdU32 (d n m : QReg) : Statement (.vabdU32 d n m) := rfl

theorem vhaddS8 (d n m : QReg) : Statement (.vhaddS8 d n m) := rfl

theorem vhaddS8Scalar (d n : QReg) : Statement (.vhaddS8Scalar d n) := rfl

theorem vhaddU8 (d n m : QReg) : Statement (.vhaddU8 d n m) := rfl

theorem vhaddU8Scalar (d n : QReg) : Statement (.vhaddU8Scalar d n) := rfl

theorem vhaddS16 (d n m : QReg) : Statement (.vhaddS16 d n m) := rfl

theorem vhaddS16Scalar (d n : QReg) : Statement (.vhaddS16Scalar d n) := rfl

theorem vhaddU16 (d n m : QReg) : Statement (.vhaddU16 d n m) := rfl

theorem vhaddU16Scalar (d n : QReg) : Statement (.vhaddU16Scalar d n) := rfl

theorem vhaddS32 (d n m : QReg) : Statement (.vhaddS32 d n m) := rfl

theorem vhaddS32Scalar (d n : QReg) : Statement (.vhaddS32Scalar d n) := rfl

theorem vhaddU32 (d n m : QReg) : Statement (.vhaddU32 d n m) := rfl

theorem vhaddU32Scalar (d n : QReg) : Statement (.vhaddU32Scalar d n) := rfl

theorem vhsubS8 (d n m : QReg) : Statement (.vhsubS8 d n m) := rfl

theorem vhsubS8Scalar (d n : QReg) : Statement (.vhsubS8Scalar d n) := rfl

theorem vhsubU8 (d n m : QReg) : Statement (.vhsubU8 d n m) := rfl

theorem vhsubU8Scalar (d n : QReg) : Statement (.vhsubU8Scalar d n) := rfl

theorem vhsubS16 (d n m : QReg) : Statement (.vhsubS16 d n m) := rfl

theorem vhsubS16Scalar (d n : QReg) : Statement (.vhsubS16Scalar d n) := rfl

theorem vhsubU16 (d n m : QReg) : Statement (.vhsubU16 d n m) := rfl

theorem vhsubU16Scalar (d n : QReg) : Statement (.vhsubU16Scalar d n) := rfl

theorem vhsubS32 (d n m : QReg) : Statement (.vhsubS32 d n m) := rfl

theorem vhsubS32Scalar (d n : QReg) : Statement (.vhsubS32Scalar d n) := rfl

theorem vhsubU32 (d n m : QReg) : Statement (.vhsubU32 d n m) := rfl

theorem vhsubU32Scalar (d n : QReg) : Statement (.vhsubU32Scalar d n) := rfl

theorem vqaddS8 (d n m : QReg) : Statement (.vqaddS8 d n m) := rfl

theorem vqaddS8Scalar (d n : QReg) : Statement (.vqaddS8Scalar d n) := rfl

theorem vqaddU8 (d n m : QReg) : Statement (.vqaddU8 d n m) := rfl

theorem vqaddU8Scalar (d n : QReg) : Statement (.vqaddU8Scalar d n) := rfl

theorem vqaddS16 (d n m : QReg) : Statement (.vqaddS16 d n m) := rfl

theorem vqaddS16Scalar (d n : QReg) : Statement (.vqaddS16Scalar d n) := rfl

theorem vqaddU16 (d n m : QReg) : Statement (.vqaddU16 d n m) := rfl

theorem vqaddU16Scalar (d n : QReg) : Statement (.vqaddU16Scalar d n) := rfl

theorem vqaddS32 (d n m : QReg) : Statement (.vqaddS32 d n m) := rfl

theorem vqaddS32Scalar (d n : QReg) : Statement (.vqaddS32Scalar d n) := rfl

theorem vqaddU32 (d n m : QReg) : Statement (.vqaddU32 d n m) := rfl

theorem vqaddU32Scalar (d n : QReg) : Statement (.vqaddU32Scalar d n) := rfl

theorem vqsubS8 (d n m : QReg) : Statement (.vqsubS8 d n m) := rfl

theorem vqsubS8Scalar (d n : QReg) : Statement (.vqsubS8Scalar d n) := rfl

theorem vqsubU8 (d n m : QReg) : Statement (.vqsubU8 d n m) := rfl

theorem vqsubU8Scalar (d n : QReg) : Statement (.vqsubU8Scalar d n) := rfl

theorem vqsubS16 (d n m : QReg) : Statement (.vqsubS16 d n m) := rfl

theorem vqsubS16Scalar (d n : QReg) : Statement (.vqsubS16Scalar d n) := rfl

theorem vqsubU16 (d n m : QReg) : Statement (.vqsubU16 d n m) := rfl

theorem vqsubU16Scalar (d n : QReg) : Statement (.vqsubU16Scalar d n) := rfl

theorem vqsubS32 (d n m : QReg) : Statement (.vqsubS32 d n m) := rfl

theorem vqsubS32Scalar (d n : QReg) : Statement (.vqsubS32Scalar d n) := rfl

theorem vqsubU32 (d n m : QReg) : Statement (.vqsubU32 d n m) := rfl

theorem vqsubU32Scalar (d n : QReg) : Statement (.vqsubU32Scalar d n) := rfl

theorem vshlS8 (d n m : QReg) : Statement (.vshlS8 d n m) := rfl

theorem vshlS8Scalar (d n : QReg) : Statement (.vshlS8Scalar d n) := rfl

theorem vshlU8 (d n m : QReg) : Statement (.vshlU8 d n m) := rfl

theorem vshlU8Scalar (d n : QReg) : Statement (.vshlU8Scalar d n) := rfl

theorem vshlS16 (d n m : QReg) : Statement (.vshlS16 d n m) := rfl

theorem vshlS16Scalar (d n : QReg) : Statement (.vshlS16Scalar d n) := rfl

theorem vshlU16 (d n m : QReg) : Statement (.vshlU16 d n m) := rfl

theorem vshlU16Scalar (d n : QReg) : Statement (.vshlU16Scalar d n) := rfl

theorem vshlS32 (d n m : QReg) : Statement (.vshlS32 d n m) := rfl

theorem vshlS32Scalar (d n : QReg) : Statement (.vshlS32Scalar d n) := rfl

theorem vshlU32 (d n m : QReg) : Statement (.vshlU32 d n m) := rfl

theorem vshlU32Scalar (d n : QReg) : Statement (.vshlU32Scalar d n) := rfl

theorem vrshlS8 (d n m : QReg) : Statement (.vrshlS8 d n m) := rfl

theorem vrshlS8Scalar (d n : QReg) : Statement (.vrshlS8Scalar d n) := rfl

theorem vrshlU8 (d n m : QReg) : Statement (.vrshlU8 d n m) := rfl

theorem vrshlU8Scalar (d n : QReg) : Statement (.vrshlU8Scalar d n) := rfl

theorem vrshlS16 (d n m : QReg) : Statement (.vrshlS16 d n m) := rfl

theorem vrshlS16Scalar (d n : QReg) : Statement (.vrshlS16Scalar d n) := rfl

theorem vrshlU16 (d n m : QReg) : Statement (.vrshlU16 d n m) := rfl

theorem vrshlU16Scalar (d n : QReg) : Statement (.vrshlU16Scalar d n) := rfl

theorem vrshlS32 (d n m : QReg) : Statement (.vrshlS32 d n m) := rfl

theorem vrshlS32Scalar (d n : QReg) : Statement (.vrshlS32Scalar d n) := rfl

theorem vrshlU32 (d n m : QReg) : Statement (.vrshlU32 d n m) := rfl

theorem vrshlU32Scalar (d n : QReg) : Statement (.vrshlU32Scalar d n) := rfl

theorem vqshlS8 (d n m : QReg) : Statement (.vqshlS8 d n m) := rfl

theorem vqshlS8Scalar (d n : QReg) : Statement (.vqshlS8Scalar d n) := rfl

theorem vqshlU8 (d n m : QReg) : Statement (.vqshlU8 d n m) := rfl

theorem vqshlU8Scalar (d n : QReg) : Statement (.vqshlU8Scalar d n) := rfl

theorem vqshlS16 (d n m : QReg) : Statement (.vqshlS16 d n m) := rfl

theorem vqshlS16Scalar (d n : QReg) : Statement (.vqshlS16Scalar d n) := rfl

theorem vqshlU16 (d n m : QReg) : Statement (.vqshlU16 d n m) := rfl

theorem vqshlU16Scalar (d n : QReg) : Statement (.vqshlU16Scalar d n) := rfl

theorem vqshlS32 (d n m : QReg) : Statement (.vqshlS32 d n m) := rfl

theorem vqshlS32Scalar (d n : QReg) : Statement (.vqshlS32Scalar d n) := rfl

theorem vqshlU32 (d n m : QReg) : Statement (.vqshlU32 d n m) := rfl

theorem vqshlU32Scalar (d n : QReg) : Statement (.vqshlU32Scalar d n) := rfl

theorem vqrshlS8 (d n m : QReg) : Statement (.vqrshlS8 d n m) := rfl

theorem vqrshlS8Scalar (d n : QReg) : Statement (.vqrshlS8Scalar d n) := rfl

theorem vqrshlU8 (d n m : QReg) : Statement (.vqrshlU8 d n m) := rfl

theorem vqrshlU8Scalar (d n : QReg) : Statement (.vqrshlU8Scalar d n) := rfl

theorem vqrshlS16 (d n m : QReg) : Statement (.vqrshlS16 d n m) := rfl

theorem vqrshlS16Scalar (d n : QReg) : Statement (.vqrshlS16Scalar d n) := rfl

theorem vqrshlU16 (d n m : QReg) : Statement (.vqrshlU16 d n m) := rfl

theorem vqrshlU16Scalar (d n : QReg) : Statement (.vqrshlU16Scalar d n) := rfl

theorem vqrshlS32 (d n m : QReg) : Statement (.vqrshlS32 d n m) := rfl

theorem vqrshlS32Scalar (d n : QReg) : Statement (.vqrshlS32Scalar d n) := rfl

theorem vqrshlU32 (d n m : QReg) : Statement (.vqrshlU32 d n m) := rfl

theorem vqrshlU32Scalar (d n : QReg) : Statement (.vqrshlU32Scalar d n) := rfl

theorem vmullbS8 (d n m : QReg) : Statement (.vmullbS8 d n m) := rfl

theorem vmullbU8 (d n m : QReg) : Statement (.vmullbU8 d n m) := rfl

theorem vmullbS16 (d n m : QReg) : Statement (.vmullbS16 d n m) := rfl

theorem vmullbU16 (d n m : QReg) : Statement (.vmullbU16 d n m) := rfl

theorem vmullbS32 (d n m : QReg) : Statement (.vmullbS32 d n m) := rfl

theorem vmullbU32 (d n m : QReg) : Statement (.vmullbU32 d n m) := rfl

theorem vmulltS8 (d n m : QReg) : Statement (.vmulltS8 d n m) := rfl

theorem vmulltU8 (d n m : QReg) : Statement (.vmulltU8 d n m) := rfl

theorem vmulltS16 (d n m : QReg) : Statement (.vmulltS16 d n m) := rfl

theorem vmulltU16 (d n m : QReg) : Statement (.vmulltU16 d n m) := rfl

theorem vmulltS32 (d n m : QReg) : Statement (.vmulltS32 d n m) := rfl

theorem vmulltU32 (d n m : QReg) : Statement (.vmulltU32 d n m) := rfl

theorem vqdmulhS8 (d n m : QReg) : Statement (.vqdmulhS8 d n m) := rfl

theorem vqdmulhS8Scalar (d n : QReg) : Statement (.vqdmulhS8Scalar d n) := rfl

theorem vqdmulhS16 (d n m : QReg) : Statement (.vqdmulhS16 d n m) := rfl

theorem vqdmulhS16Scalar (d n : QReg) : Statement (.vqdmulhS16Scalar d n) := rfl

theorem vqdmulhS32 (d n m : QReg) : Statement (.vqdmulhS32 d n m) := rfl

theorem vqdmulhS32Scalar (d n : QReg) : Statement (.vqdmulhS32Scalar d n) := rfl

theorem vqrdmulhS8 (d n m : QReg) : Statement (.vqrdmulhS8 d n m) := rfl

theorem vqrdmulhS8Scalar (d n : QReg) : Statement (.vqrdmulhS8Scalar d n) := rfl

theorem vqrdmulhS16 (d n m : QReg) : Statement (.vqrdmulhS16 d n m) := rfl

theorem vqrdmulhS16Scalar (d n : QReg) : Statement (.vqrdmulhS16Scalar d n) := rfl

theorem vqrdmulhS32 (d n m : QReg) : Statement (.vqrdmulhS32 d n m) := rfl

theorem vqrdmulhS32Scalar (d n : QReg) : Statement (.vqrdmulhS32Scalar d n) := rfl

theorem vcaddI8Rot90 (d n m : QReg) : Statement (.vcaddI8Rot90 d n m) := rfl

theorem vcaddI16Rot90 (d n m : QReg) : Statement (.vcaddI16Rot90 d n m) := rfl

theorem vcaddI32Rot90 (d n m : QReg) : Statement (.vcaddI32Rot90 d n m) := rfl

theorem vcaddI8Rot270 (d n m : QReg) : Statement (.vcaddI8Rot270 d n m) := rfl

theorem vcaddI16Rot270 (d n m : QReg) : Statement (.vcaddI16Rot270 d n m) := rfl

theorem vcaddI32Rot270 (d n m : QReg) : Statement (.vcaddI32Rot270 d n m) := rfl

theorem vqdmladhS8 (d n m : QReg) : Statement (.vqdmladhS8 d n m) := rfl

theorem vqdmladhS16 (d n m : QReg) : Statement (.vqdmladhS16 d n m) := rfl

theorem vqdmladhS32 (d n m : QReg) : Statement (.vqdmladhS32 d n m) := rfl

theorem vqdmladhxS8 (d n m : QReg) : Statement (.vqdmladhxS8 d n m) := rfl

theorem vqdmladhxS16 (d n m : QReg) : Statement (.vqdmladhxS16 d n m) := rfl

theorem vqdmladhxS32 (d n m : QReg) : Statement (.vqdmladhxS32 d n m) := rfl

theorem vqrdmladhS8 (d n m : QReg) : Statement (.vqrdmladhS8 d n m) := rfl

theorem vqrdmladhS16 (d n m : QReg) : Statement (.vqrdmladhS16 d n m) := rfl

theorem vqrdmladhS32 (d n m : QReg) : Statement (.vqrdmladhS32 d n m) := rfl

theorem vqrdmladhxS8 (d n m : QReg) : Statement (.vqrdmladhxS8 d n m) := rfl

theorem vqrdmladhxS16 (d n m : QReg) : Statement (.vqrdmladhxS16 d n m) := rfl

theorem vqrdmladhxS32 (d n m : QReg) : Statement (.vqrdmladhxS32 d n m) := rfl

theorem vqdmlsdhS8 (d n m : QReg) : Statement (.vqdmlsdhS8 d n m) := rfl

theorem vqdmlsdhS16 (d n m : QReg) : Statement (.vqdmlsdhS16 d n m) := rfl

theorem vqdmlsdhS32 (d n m : QReg) : Statement (.vqdmlsdhS32 d n m) := rfl

theorem vqdmlsdhxS8 (d n m : QReg) : Statement (.vqdmlsdhxS8 d n m) := rfl

theorem vqdmlsdhxS16 (d n m : QReg) : Statement (.vqdmlsdhxS16 d n m) := rfl

theorem vqdmlsdhxS32 (d n m : QReg) : Statement (.vqdmlsdhxS32 d n m) := rfl

theorem vqrdmlsdhS8 (d n m : QReg) : Statement (.vqrdmlsdhS8 d n m) := rfl

theorem vqrdmlsdhS16 (d n m : QReg) : Statement (.vqrdmlsdhS16 d n m) := rfl

theorem vqrdmlsdhS32 (d n m : QReg) : Statement (.vqrdmlsdhS32 d n m) := rfl

theorem vqrdmlsdhxS8 (d n m : QReg) : Statement (.vqrdmlsdhxS8 d n m) := rfl

theorem vqrdmlsdhxS16 (d n m : QReg) : Statement (.vqrdmlsdhxS16 d n m) := rfl

theorem vqrdmlsdhxS32 (d n m : QReg) : Statement (.vqrdmlsdhxS32 d n m) := rfl

theorem vadcI32 (d n m : QReg) : Statement (.vadcI32 d n m) := rfl

theorem vadciI32 (d n m : QReg) : Statement (.vadciI32 d n m) := rfl

theorem vsbcI32 (d n m : QReg) : Statement (.vsbcI32 d n m) := rfl

theorem vsbciI32 (d n m : QReg) : Statement (.vsbciI32 d n m) := rfl

theorem vmladavS8 (n m : QReg) : Statement (.vmladavS8 n m) := rfl

theorem vmladavU8 (n m : QReg) : Statement (.vmladavU8 n m) := rfl

theorem vmladavS16 (n m : QReg) : Statement (.vmladavS16 n m) := rfl

theorem vmladavU16 (n m : QReg) : Statement (.vmladavU16 n m) := rfl

theorem vmladavS32 (n m : QReg) : Statement (.vmladavS32 n m) := rfl

theorem vmladavU32 (n m : QReg) : Statement (.vmladavU32 n m) := rfl

theorem vmladavxS8 (n m : QReg) : Statement (.vmladavxS8 n m) := rfl

theorem vmladavxS16 (n m : QReg) : Statement (.vmladavxS16 n m) := rfl

theorem vmladavxS32 (n m : QReg) : Statement (.vmladavxS32 n m) := rfl

theorem vmlsdavS8 (n m : QReg) : Statement (.vmlsdavS8 n m) := rfl

theorem vmlsdavS16 (n m : QReg) : Statement (.vmlsdavS16 n m) := rfl

theorem vmlsdavS32 (n m : QReg) : Statement (.vmlsdavS32 n m) := rfl

theorem vmlsdavxS8 (n m : QReg) : Statement (.vmlsdavxS8 n m) := rfl

theorem vmlsdavxS16 (n m : QReg) : Statement (.vmlsdavxS16 n m) := rfl

theorem vmlsdavxS32 (n m : QReg) : Statement (.vmlsdavxS32 n m) := rfl

theorem vrmlaldavhS32 (n m : QReg) : Statement (.vrmlaldavhS32 n m) := rfl

theorem vrmlaldavhU32 (n m : QReg) : Statement (.vrmlaldavhU32 n m) := rfl

theorem vrmlaldavhxS32 (n m : QReg) : Statement (.vrmlaldavhxS32 n m) := rfl

theorem vrmlsldavhS32 (n m : QReg) : Statement (.vrmlsldavhS32 n m) := rfl

theorem vrmlsldavhxS32 (n m : QReg) : Statement (.vrmlsldavhxS32 n m) := rfl

theorem vaddvS8 (m : QReg) : Statement (.vaddvS8 m) := rfl

theorem vaddvU8 (m : QReg) : Statement (.vaddvU8 m) := rfl

theorem vaddvS16 (m : QReg) : Statement (.vaddvS16 m) := rfl

theorem vaddvU16 (m : QReg) : Statement (.vaddvU16 m) := rfl

theorem vaddvS32 (m : QReg) : Statement (.vaddvS32 m) := rfl

theorem vaddvU32 (m : QReg) : Statement (.vaddvU32 m) := rfl

theorem vldrb8 (d : QReg) : Statement (.vldrb8 d) := rfl

theorem vldrbS16 (d : QReg) : Statement (.vldrbS16 d) := rfl

theorem vldrbU16 (d : QReg) : Statement (.vldrbU16 d) := rfl

theorem vldrh16 (d : QReg) : Statement (.vldrh16 d) := rfl

theorem vldrbS32 (d : QReg) : Statement (.vldrbS32 d) := rfl

theorem vldrbU32 (d : QReg) : Statement (.vldrbU32 d) := rfl

theorem vldrhS32 (d : QReg) : Statement (.vldrhS32 d) := rfl

theorem vldrhU32 (d : QReg) : Statement (.vldrhU32 d) := rfl

theorem vldrw32 (d : QReg) : Statement (.vldrw32 d) := rfl

theorem vstrb8 (d : QReg) : Statement (.vstrb8 d) := rfl

theorem vstrb16 (d : QReg) : Statement (.vstrb16 d) := rfl

theorem vstrh16 (d : QReg) : Statement (.vstrh16 d) := rfl

theorem vstrb32 (d : QReg) : Statement (.vstrb32 d) := rfl

theorem vstrh32 (d : QReg) : Statement (.vstrh32 d) := rfl

theorem vstrw32 (d : QReg) : Statement (.vstrw32 d) := rfl

theorem msrVpr : Statement .msrVpr := rfl

theorem mrsVpr : Statement .mrsVpr := rfl

theorem msrStatus : Statement .msrStatus := rfl

theorem mrsStatus : Statement .mrsStatus := rfl

theorem msrLoopcount : Statement .msrLoopcount := rfl

theorem mrsLoopcount : Statement .mrsLoopcount := rfl

theorem msrLtpsize : Statement .msrLtpsize := rfl

theorem mrsLtpsize : Statement .mrsLtpsize := rfl

theorem msrEci : Statement .msrEci := rfl

theorem mrsEci : Statement .mrsEci := rfl

end Sys2Proof.Laws.FieldsRoundTrip
end

