-- ==== Sys2Proof/Tests/Slice0.lean ====
section
/-! SUPPORT. The model's own tests: the well-formedness smoke, every constructor's decoding from words written from
30_encoding.md R81 and R90 (the opcode table's match with QD = 5, QN = 3, QM = 6), one-step tests whose expected results
are the spec's (the examples of the instruction rules and 95_test_vectors.md), and a witness for every statement that
has hypotheses. -/

namespace Sys2Proof.Tests

open Sys2Proof.Machine

/-! ## Well-formedness: one check, at each place a register stands (30_encoding.md R84) -/

theorem test_wellformed_all : (Instr.vand 7 7 7).wellFormed 8 = true := by decide

theorem test_wellformed_qd : (Instr.vand 4 0 0).wellFormed 4 = false := by decide

theorem test_wellformed_qn : (Instr.vand 0 4 0).wellFormed 4 = false := by decide

theorem test_wellformed_qm : (Instr.vand 0 0 4).wellFormed 4 = false := by decide

theorem test_wellformed_boundary : (Instr.vand 3 3 3).wellFormed 4 = true := by decide

theorem test_wellformed_scalar_qd : (Instr.vaddI8Scalar 4 0).wellFormed 4 = false := by decide

theorem test_wellformed_scalar_qn : (Instr.vaddI8Scalar 0 4).wellFormed 4 = false := by decide

theorem test_wellformed_reduction_qn : (Instr.vmladavS8 4 0).wellFormed 4 = false := by decide

theorem test_wellformed_reduction_qm : (Instr.vmladavS8 0 4).wellFormed 4 = false := by decide

theorem test_wellformed_sum : (Instr.vaddvS8 4).wellFormed 4 = false := by decide

theorem test_wellformed_load : (Instr.vldrb8 4).wellFormed 4 = false := by decide

theorem test_wellformed_store : (Instr.vstrb8 4).wellFormed 4 = false := by decide

theorem test_wellformed_state : Instr.msrVpr.wellFormed 1 = true := by decide

/-! ## Decoding: every constructor, from its word -/

theorem test_decode_vand :
    decode 0x00033A00 = .ok (.vand 5 3 6) :=
  rfl

theorem test_decode_vbic :
    decode 0x00033A01 = .ok (.vbic 5 3 6) :=
  rfl

theorem test_decode_vorr :
    decode 0x00033A02 = .ok (.vorr 5 3 6) :=
  rfl

theorem test_decode_vorn :
    decode 0x00033A03 = .ok (.vorn 5 3 6) :=
  rfl

theorem test_decode_veor :
    decode 0x00033A04 = .ok (.veor 5 3 6) :=
  rfl

theorem test_decode_vadd :
    decode 0x00033A08 = .ok (.vaddI8 5 3 6) ∧
      decode 0x00043A08 = .ok (.vaddI8Scalar 5 3) ∧
      decode 0x00033A48 = .ok (.vaddI16 5 3 6) ∧
      decode 0x00043A48 = .ok (.vaddI16Scalar 5 3) ∧
      decode 0x00033A88 = .ok (.vaddI32 5 3 6) ∧
      decode 0x00043A88 = .ok (.vaddI32Scalar 5 3) :=
  ⟨rfl, rfl, rfl, rfl, rfl, rfl⟩

theorem test_decode_vsub :
    decode 0x00033A09 = .ok (.vsubI8 5 3 6) ∧
      decode 0x00043A09 = .ok (.vsubI8Scalar 5 3) ∧
      decode 0x00033A49 = .ok (.vsubI16 5 3 6) ∧
      decode 0x00043A49 = .ok (.vsubI16Scalar 5 3) ∧
      decode 0x00033A89 = .ok (.vsubI32 5 3 6) ∧
      decode 0x00043A89 = .ok (.vsubI32Scalar 5 3) :=
  ⟨rfl, rfl, rfl, rfl, rfl, rfl⟩

theorem test_decode_vmul :
    decode 0x00033A0A = .ok (.vmulI8 5 3 6) ∧
      decode 0x00043A0A = .ok (.vmulI8Scalar 5 3) ∧
      decode 0x00033A4A = .ok (.vmulI16 5 3 6) ∧
      decode 0x00043A4A = .ok (.vmulI16Scalar 5 3) ∧
      decode 0x00033A8A = .ok (.vmulI32 5 3 6) ∧
      decode 0x00043A8A = .ok (.vmulI32Scalar 5 3) :=
  ⟨rfl, rfl, rfl, rfl, rfl, rfl⟩

theorem test_decode_vmax :
    decode 0x00033A0B = .ok (.vmaxS8 5 3 6) ∧
      decode 0x00033B0B = .ok (.vmaxU8 5 3 6) ∧
      decode 0x00033A4B = .ok (.vmaxS16 5 3 6) ∧
      decode 0x00033B4B = .ok (.vmaxU16 5 3 6) ∧
      decode 0x00033A8B = .ok (.vmaxS32 5 3 6) ∧
      decode 0x00033B8B = .ok (.vmaxU32 5 3 6) :=
  ⟨rfl, rfl, rfl, rfl, rfl, rfl⟩

theorem test_decode_vmin :
    decode 0x00033A0C = .ok (.vminS8 5 3 6) ∧
      decode 0x00033B0C = .ok (.vminU8 5 3 6) ∧
      decode 0x00033A4C = .ok (.vminS16 5 3 6) ∧
      decode 0x00033B4C = .ok (.vminU16 5 3 6) ∧
      decode 0x00033A8C = .ok (.vminS32 5 3 6) ∧
      decode 0x00033B8C = .ok (.vminU32 5 3 6) :=
  ⟨rfl, rfl, rfl, rfl, rfl, rfl⟩

theorem test_decode_vabd :
    decode 0x00033A0D = .ok (.vabdS8 5 3 6) ∧
      decode 0x00033B0D = .ok (.vabdU8 5 3 6) ∧
      decode 0x00033A4D = .ok (.vabdS16 5 3 6) ∧
      decode 0x00033B4D = .ok (.vabdU16 5 3 6) ∧
      decode 0x00033A8D = .ok (.vabdS32 5 3 6) ∧
      decode 0x00033B8D = .ok (.vabdU32 5 3 6) :=
  ⟨rfl, rfl, rfl, rfl, rfl, rfl⟩

theorem test_decode_vhadd :
    decode 0x00033A0E = .ok (.vhaddS8 5 3 6) ∧
      decode 0x00043A0E = .ok (.vhaddS8Scalar 5 3) ∧
      decode 0x00033B0E = .ok (.vhaddU8 5 3 6) ∧
      decode 0x00043B0E = .ok (.vhaddU8Scalar 5 3) ∧
      decode 0x00033A4E = .ok (.vhaddS16 5 3 6) ∧
      decode 0x00043A4E = .ok (.vhaddS16Scalar 5 3) ∧
      decode 0x00033B4E = .ok (.vhaddU16 5 3 6) ∧
      decode 0x00043B4E = .ok (.vhaddU16Scalar 5 3) ∧
      decode 0x00033A8E = .ok (.vhaddS32 5 3 6) ∧
      decode 0x00043A8E = .ok (.vhaddS32Scalar 5 3) ∧
      decode 0x00033B8E = .ok (.vhaddU32 5 3 6) ∧
      decode 0x00043B8E = .ok (.vhaddU32Scalar 5 3) :=
  ⟨rfl, rfl, rfl, rfl, rfl, rfl, rfl, rfl, rfl, rfl, rfl, rfl⟩

theorem test_decode_vhsub :
    decode 0x00033A0F = .ok (.vhsubS8 5 3 6) ∧
      decode 0x00043A0F = .ok (.vhsubS8Scalar 5 3) ∧
      decode 0x00033B0F = .ok (.vhsubU8 5 3 6) ∧
      decode 0x00043B0F = .ok (.vhsubU8Scalar 5 3) ∧
      decode 0x00033A4F = .ok (.vhsubS16 5 3 6) ∧
      decode 0x00043A4F = .ok (.vhsubS16Scalar 5 3) ∧
      decode 0x00033B4F = .ok (.vhsubU16 5 3 6) ∧
      decode 0x00043B4F = .ok (.vhsubU16Scalar 5 3) ∧
      decode 0x00033A8F = .ok (.vhsubS32 5 3 6) ∧
      decode 0x00043A8F = .ok (.vhsubS32Scalar 5 3) ∧
      decode 0x00033B8F = .ok (.vhsubU32 5 3 6) ∧
      decode 0x00043B8F = .ok (.vhsubU32Scalar 5 3) :=
  ⟨rfl, rfl, rfl, rfl, rfl, rfl, rfl, rfl, rfl, rfl, rfl, rfl⟩

theorem test_decode_vqadd :
    decode 0x00033A10 = .ok (.vqaddS8 5 3 6) ∧
      decode 0x00043A10 = .ok (.vqaddS8Scalar 5 3) ∧
      decode 0x00033B10 = .ok (.vqaddU8 5 3 6) ∧
      decode 0x00043B10 = .ok (.vqaddU8Scalar 5 3) ∧
      decode 0x00033A50 = .ok (.vqaddS16 5 3 6) ∧
      decode 0x00043A50 = .ok (.vqaddS16Scalar 5 3) ∧
      decode 0x00033B50 = .ok (.vqaddU16 5 3 6) ∧
      decode 0x00043B50 = .ok (.vqaddU16Scalar 5 3) ∧
      decode 0x00033A90 = .ok (.vqaddS32 5 3 6) ∧
      decode 0x00043A90 = .ok (.vqaddS32Scalar 5 3) ∧
      decode 0x00033B90 = .ok (.vqaddU32 5 3 6) ∧
      decode 0x00043B90 = .ok (.vqaddU32Scalar 5 3) :=
  ⟨rfl, rfl, rfl, rfl, rfl, rfl, rfl, rfl, rfl, rfl, rfl, rfl⟩

theorem test_decode_vqsub :
    decode 0x00033A11 = .ok (.vqsubS8 5 3 6) ∧
      decode 0x00043A11 = .ok (.vqsubS8Scalar 5 3) ∧
      decode 0x00033B11 = .ok (.vqsubU8 5 3 6) ∧
      decode 0x00043B11 = .ok (.vqsubU8Scalar 5 3) ∧
      decode 0x00033A51 = .ok (.vqsubS16 5 3 6) ∧
      decode 0x00043A51 = .ok (.vqsubS16Scalar 5 3) ∧
      decode 0x00033B51 = .ok (.vqsubU16 5 3 6) ∧
      decode 0x00043B51 = .ok (.vqsubU16Scalar 5 3) ∧
      decode 0x00033A91 = .ok (.vqsubS32 5 3 6) ∧
      decode 0x00043A91 = .ok (.vqsubS32Scalar 5 3) ∧
      decode 0x00033B91 = .ok (.vqsubU32 5 3 6) ∧
      decode 0x00043B91 = .ok (.vqsubU32Scalar 5 3) :=
  ⟨rfl, rfl, rfl, rfl, rfl, rfl, rfl, rfl, rfl, rfl, rfl, rfl⟩

theorem test_decode_vshl :
    decode 0x00033A14 = .ok (.vshlS8 5 3 6) ∧
      decode 0x00043A14 = .ok (.vshlS8Scalar 5 3) ∧
      decode 0x00033B14 = .ok (.vshlU8 5 3 6) ∧
      decode 0x00043B14 = .ok (.vshlU8Scalar 5 3) ∧
      decode 0x00033A54 = .ok (.vshlS16 5 3 6) ∧
      decode 0x00043A54 = .ok (.vshlS16Scalar 5 3) ∧
      decode 0x00033B54 = .ok (.vshlU16 5 3 6) ∧
      decode 0x00043B54 = .ok (.vshlU16Scalar 5 3) ∧
      decode 0x00033A94 = .ok (.vshlS32 5 3 6) ∧
      decode 0x00043A94 = .ok (.vshlS32Scalar 5 3) ∧
      decode 0x00033B94 = .ok (.vshlU32 5 3 6) ∧
      decode 0x00043B94 = .ok (.vshlU32Scalar 5 3) :=
  ⟨rfl, rfl, rfl, rfl, rfl, rfl, rfl, rfl, rfl, rfl, rfl, rfl⟩

theorem test_decode_vrshl :
    decode 0x00033A15 = .ok (.vrshlS8 5 3 6) ∧
      decode 0x00043A15 = .ok (.vrshlS8Scalar 5 3) ∧
      decode 0x00033B15 = .ok (.vrshlU8 5 3 6) ∧
      decode 0x00043B15 = .ok (.vrshlU8Scalar 5 3) ∧
      decode 0x00033A55 = .ok (.vrshlS16 5 3 6) ∧
      decode 0x00043A55 = .ok (.vrshlS16Scalar 5 3) ∧
      decode 0x00033B55 = .ok (.vrshlU16 5 3 6) ∧
      decode 0x00043B55 = .ok (.vrshlU16Scalar 5 3) ∧
      decode 0x00033A95 = .ok (.vrshlS32 5 3 6) ∧
      decode 0x00043A95 = .ok (.vrshlS32Scalar 5 3) ∧
      decode 0x00033B95 = .ok (.vrshlU32 5 3 6) ∧
      decode 0x00043B95 = .ok (.vrshlU32Scalar 5 3) :=
  ⟨rfl, rfl, rfl, rfl, rfl, rfl, rfl, rfl, rfl, rfl, rfl, rfl⟩

theorem test_decode_vqshl :
    decode 0x00033A16 = .ok (.vqshlS8 5 3 6) ∧
      decode 0x00043A16 = .ok (.vqshlS8Scalar 5 3) ∧
      decode 0x00033B16 = .ok (.vqshlU8 5 3 6) ∧
      decode 0x00043B16 = .ok (.vqshlU8Scalar 5 3) ∧
      decode 0x00033A56 = .ok (.vqshlS16 5 3 6) ∧
      decode 0x00043A56 = .ok (.vqshlS16Scalar 5 3) ∧
      decode 0x00033B56 = .ok (.vqshlU16 5 3 6) ∧
      decode 0x00043B56 = .ok (.vqshlU16Scalar 5 3) ∧
      decode 0x00033A96 = .ok (.vqshlS32 5 3 6) ∧
      decode 0x00043A96 = .ok (.vqshlS32Scalar 5 3) ∧
      decode 0x00033B96 = .ok (.vqshlU32 5 3 6) ∧
      decode 0x00043B96 = .ok (.vqshlU32Scalar 5 3) :=
  ⟨rfl, rfl, rfl, rfl, rfl, rfl, rfl, rfl, rfl, rfl, rfl, rfl⟩

theorem test_decode_vqrshl :
    decode 0x00033A17 = .ok (.vqrshlS8 5 3 6) ∧
      decode 0x00043A17 = .ok (.vqrshlS8Scalar 5 3) ∧
      decode 0x00033B17 = .ok (.vqrshlU8 5 3 6) ∧
      decode 0x00043B17 = .ok (.vqrshlU8Scalar 5 3) ∧
      decode 0x00033A57 = .ok (.vqrshlS16 5 3 6) ∧
      decode 0x00043A57 = .ok (.vqrshlS16Scalar 5 3) ∧
      decode 0x00033B57 = .ok (.vqrshlU16 5 3 6) ∧
      decode 0x00043B57 = .ok (.vqrshlU16Scalar 5 3) ∧
      decode 0x00033A97 = .ok (.vqrshlS32 5 3 6) ∧
      decode 0x00043A97 = .ok (.vqrshlS32Scalar 5 3) ∧
      decode 0x00033B97 = .ok (.vqrshlU32 5 3 6) ∧
      decode 0x00043B97 = .ok (.vqrshlU32Scalar 5 3) :=
  ⟨rfl, rfl, rfl, rfl, rfl, rfl, rfl, rfl, rfl, rfl, rfl, rfl⟩

theorem test_decode_vmullb :
    decode 0x00033A18 = .ok (.vmullbS8 5 3 6) ∧
      decode 0x00033B18 = .ok (.vmullbU8 5 3 6) ∧
      decode 0x00033A58 = .ok (.vmullbS16 5 3 6) ∧
      decode 0x00033B58 = .ok (.vmullbU16 5 3 6) ∧
      decode 0x00033A98 = .ok (.vmullbS32 5 3 6) ∧
      decode 0x00033B98 = .ok (.vmullbU32 5 3 6) :=
  ⟨rfl, rfl, rfl, rfl, rfl, rfl⟩

theorem test_decode_vmullt :
    decode 0x00033A19 = .ok (.vmulltS8 5 3 6) ∧
      decode 0x00033B19 = .ok (.vmulltU8 5 3 6) ∧
      decode 0x00033A59 = .ok (.vmulltS16 5 3 6) ∧
      decode 0x00033B59 = .ok (.vmulltU16 5 3 6) ∧
      decode 0x00033A99 = .ok (.vmulltS32 5 3 6) ∧
      decode 0x00033B99 = .ok (.vmulltU32 5 3 6) :=
  ⟨rfl, rfl, rfl, rfl, rfl, rfl⟩

theorem test_decode_vqdmulh :
    decode 0x00033A1A = .ok (.vqdmulhS8 5 3 6) ∧
      decode 0x00043A1A = .ok (.vqdmulhS8Scalar 5 3) ∧
      decode 0x00033A5A = .ok (.vqdmulhS16 5 3 6) ∧
      decode 0x00043A5A = .ok (.vqdmulhS16Scalar 5 3) ∧
      decode 0x00033A9A = .ok (.vqdmulhS32 5 3 6) ∧
      decode 0x00043A9A = .ok (.vqdmulhS32Scalar 5 3) :=
  ⟨rfl, rfl, rfl, rfl, rfl, rfl⟩

theorem test_decode_vqrdmulh :
    decode 0x00033A1B = .ok (.vqrdmulhS8 5 3 6) ∧
      decode 0x00043A1B = .ok (.vqrdmulhS8Scalar 5 3) ∧
      decode 0x00033A5B = .ok (.vqrdmulhS16 5 3 6) ∧
      decode 0x00043A5B = .ok (.vqrdmulhS16Scalar 5 3) ∧
      decode 0x00033A9B = .ok (.vqrdmulhS32 5 3 6) ∧
      decode 0x00043A9B = .ok (.vqrdmulhS32Scalar 5 3) :=
  ⟨rfl, rfl, rfl, rfl, rfl, rfl⟩

theorem test_decode_vcadd90 :
    decode 0x00033A1C = .ok (.vcaddI8Rot90 5 3 6) ∧
      decode 0x00033A5C = .ok (.vcaddI16Rot90 5 3 6) ∧
      decode 0x00033A9C = .ok (.vcaddI32Rot90 5 3 6) :=
  ⟨rfl, rfl, rfl⟩

theorem test_decode_vcadd270 :
    decode 0x00033A1D = .ok (.vcaddI8Rot270 5 3 6) ∧
      decode 0x00033A5D = .ok (.vcaddI16Rot270 5 3 6) ∧
      decode 0x00033A9D = .ok (.vcaddI32Rot270 5 3 6) :=
  ⟨rfl, rfl, rfl⟩

theorem test_decode_vqdmladh :
    decode 0x00033A20 = .ok (.vqdmladhS8 5 3 6) ∧
      decode 0x00033A60 = .ok (.vqdmladhS16 5 3 6) ∧
      decode 0x00033AA0 = .ok (.vqdmladhS32 5 3 6) :=
  ⟨rfl, rfl, rfl⟩

theorem test_decode_vqdmladhx :
    decode 0x00033A21 = .ok (.vqdmladhxS8 5 3 6) ∧
      decode 0x00033A61 = .ok (.vqdmladhxS16 5 3 6) ∧
      decode 0x00033AA1 = .ok (.vqdmladhxS32 5 3 6) :=
  ⟨rfl, rfl, rfl⟩

theorem test_decode_vqrdmladh :
    decode 0x00033A22 = .ok (.vqrdmladhS8 5 3 6) ∧
      decode 0x00033A62 = .ok (.vqrdmladhS16 5 3 6) ∧
      decode 0x00033AA2 = .ok (.vqrdmladhS32 5 3 6) :=
  ⟨rfl, rfl, rfl⟩

theorem test_decode_vqrdmladhx :
    decode 0x00033A23 = .ok (.vqrdmladhxS8 5 3 6) ∧
      decode 0x00033A63 = .ok (.vqrdmladhxS16 5 3 6) ∧
      decode 0x00033AA3 = .ok (.vqrdmladhxS32 5 3 6) :=
  ⟨rfl, rfl, rfl⟩

theorem test_decode_vqdmlsdh :
    decode 0x00033A24 = .ok (.vqdmlsdhS8 5 3 6) ∧
      decode 0x00033A64 = .ok (.vqdmlsdhS16 5 3 6) ∧
      decode 0x00033AA4 = .ok (.vqdmlsdhS32 5 3 6) :=
  ⟨rfl, rfl, rfl⟩

theorem test_decode_vqdmlsdhx :
    decode 0x00033A25 = .ok (.vqdmlsdhxS8 5 3 6) ∧
      decode 0x00033A65 = .ok (.vqdmlsdhxS16 5 3 6) ∧
      decode 0x00033AA5 = .ok (.vqdmlsdhxS32 5 3 6) :=
  ⟨rfl, rfl, rfl⟩

theorem test_decode_vqrdmlsdh :
    decode 0x00033A26 = .ok (.vqrdmlsdhS8 5 3 6) ∧
      decode 0x00033A66 = .ok (.vqrdmlsdhS16 5 3 6) ∧
      decode 0x00033AA6 = .ok (.vqrdmlsdhS32 5 3 6) :=
  ⟨rfl, rfl, rfl⟩

theorem test_decode_vqrdmlsdhx :
    decode 0x00033A27 = .ok (.vqrdmlsdhxS8 5 3 6) ∧
      decode 0x00033A67 = .ok (.vqrdmlsdhxS16 5 3 6) ∧
      decode 0x00033AA7 = .ok (.vqrdmlsdhxS32 5 3 6) :=
  ⟨rfl, rfl, rfl⟩

theorem test_decode_vadc :
    decode 0x00033AA8 = .ok (.vadcI32 5 3 6) :=
  rfl

theorem test_decode_vadci :
    decode 0x00033AA9 = .ok (.vadciI32 5 3 6) :=
  rfl

theorem test_decode_vsbc :
    decode 0x00033AAA = .ok (.vsbcI32 5 3 6) :=
  rfl

theorem test_decode_vsbci :
    decode 0x00033AAB = .ok (.vsbciI32 5 3 6) :=
  rfl

theorem test_decode_vmladav :
    decode 0x0003302C = .ok (.vmladavS8 3 6) ∧
      decode 0x0003312C = .ok (.vmladavU8 3 6) ∧
      decode 0x0003306C = .ok (.vmladavS16 3 6) ∧
      decode 0x0003316C = .ok (.vmladavU16 3 6) ∧
      decode 0x000330AC = .ok (.vmladavS32 3 6) ∧
      decode 0x000331AC = .ok (.vmladavU32 3 6) :=
  ⟨rfl, rfl, rfl, rfl, rfl, rfl⟩

theorem test_decode_vmladavx :
    decode 0x0003302D = .ok (.vmladavxS8 3 6) ∧
      decode 0x0003306D = .ok (.vmladavxS16 3 6) ∧
      decode 0x000330AD = .ok (.vmladavxS32 3 6) :=
  ⟨rfl, rfl, rfl⟩

theorem test_decode_vmlsdav :
    decode 0x0003302E = .ok (.vmlsdavS8 3 6) ∧
      decode 0x0003306E = .ok (.vmlsdavS16 3 6) ∧
      decode 0x000330AE = .ok (.vmlsdavS32 3 6) :=
  ⟨rfl, rfl, rfl⟩

theorem test_decode_vmlsdavx :
    decode 0x0003302F = .ok (.vmlsdavxS8 3 6) ∧
      decode 0x0003306F = .ok (.vmlsdavxS16 3 6) ∧
      decode 0x000330AF = .ok (.vmlsdavxS32 3 6) :=
  ⟨rfl, rfl, rfl⟩

theorem test_decode_vrmlaldavh :
    decode 0x000330B0 = .ok (.vrmlaldavhS32 3 6) ∧
      decode 0x000331B0 = .ok (.vrmlaldavhU32 3 6) :=
  ⟨rfl, rfl⟩

theorem test_decode_vrmlaldavhx :
    decode 0x000330B1 = .ok (.vrmlaldavhxS32 3 6) :=
  rfl

theorem test_decode_vrmlsldavh :
    decode 0x000330B2 = .ok (.vrmlsldavhS32 3 6) :=
  rfl

theorem test_decode_vrmlsldavhx :
    decode 0x000330B3 = .ok (.vrmlsldavhxS32 3 6) :=
  rfl

theorem test_decode_vaddv :
    decode 0x00030034 = .ok (.vaddvS8 6) ∧
      decode 0x00030134 = .ok (.vaddvU8 6) ∧
      decode 0x00030074 = .ok (.vaddvS16 6) ∧
      decode 0x00030174 = .ok (.vaddvU16 6) ∧
      decode 0x000300B4 = .ok (.vaddvS32 6) ∧
      decode 0x000301B4 = .ok (.vaddvU32 6) :=
  ⟨rfl, rfl, rfl, rfl, rfl, rfl⟩

theorem test_decode_vldrb :
    decode 0x00000A35 = .ok (.vldrb8 5) ∧
      decode 0x00000A75 = .ok (.vldrbS16 5) ∧
      decode 0x00000B75 = .ok (.vldrbU16 5) ∧
      decode 0x00080A75 = .ok (.vldrh16 5) ∧
      decode 0x00000AB5 = .ok (.vldrbS32 5) ∧
      decode 0x00000BB5 = .ok (.vldrbU32 5) ∧
      decode 0x00080AB5 = .ok (.vldrhS32 5) ∧
      decode 0x00080BB5 = .ok (.vldrhU32 5) ∧
      decode 0x00100AB5 = .ok (.vldrw32 5) :=
  ⟨rfl, rfl, rfl, rfl, rfl, rfl, rfl, rfl, rfl⟩

theorem test_decode_vstrb :
    decode 0x00000A36 = .ok (.vstrb8 5) ∧
      decode 0x00000A76 = .ok (.vstrb16 5) ∧
      decode 0x00080A76 = .ok (.vstrh16 5) ∧
      decode 0x00000AB6 = .ok (.vstrb32 5) ∧
      decode 0x00080AB6 = .ok (.vstrh32 5) ∧
      decode 0x00100AB6 = .ok (.vstrw32 5) :=
  ⟨rfl, rfl, rfl, rfl, rfl, rfl⟩

theorem test_decode_msr :
    decode 0x00000038 = .ok .msrVpr ∧
      decode 0x00001038 = .ok .msrStatus ∧
      decode 0x00002038 = .ok .msrLoopcount ∧
      decode 0x00003038 = .ok .msrLtpsize ∧
      decode 0x00004038 = .ok .msrEci :=
  ⟨rfl, rfl, rfl, rfl, rfl⟩

theorem test_decode_mrs :
    decode 0x00000039 = .ok .mrsVpr ∧
      decode 0x00001039 = .ok .mrsStatus ∧
      decode 0x00002039 = .ok .mrsLoopcount ∧
      decode 0x00003039 = .ok .mrsLtpsize ∧
      decode 0x00004039 = .ok .mrsEci :=
  ⟨rfl, rfl, rfl, rfl, rfl⟩

/-- The illegal descriptors of 95_test_vectors.md section 9, each refused by name. -/
theorem test_decode_illegal :
    decode 0x000000C8 = .error .laneSize ∧
      decode 0x00208408 = .error .reservedBits ∧
      decode 0x80008408 = .error .reservedBits ∧
      decode 0x00000005 = .error .reservedOp ∧
      decode 0x0000003F = .error .reservedOp ∧
      decode 0x0004C408 = .error .registerField ∧
      decode 0x0004040B = .error .scalarForm ∧
      decode 0x00000040 = .error .laneSize ∧
      decode 0x00008508 = .error .signedness ∧
      decode 0x00000068 = .error .laneSize ∧
      decode 0x0000822C = .error .registerField ∧
      decode 0x00080035 = .error .memorySize ∧
      decode 0x00080175 = .error .signedness ∧
      decode 0x00001035 = .error .registerField ∧
      decode 0x00000136 = .error .signedness ∧
      decode 0x00005038 = .error .stateSelector ∧
      decode 0x00007039 = .error .stateSelector ∧
      decode 0x00000238 = .error .registerField :=
  ⟨rfl, rfl, rfl, rfl, rfl, rfl, rfl, rfl, rfl, rfl, rfl, rfl, rfl, rfl, rfl, rfl, rfl, rfl⟩

theorem test_decode_register_beyond_nq : decodeFor 4 0x00008808 = .error .noSuchRegister := rfl

theorem test_decode_register_below_nq : decodeFor 5 0x00008808 = .ok (.vaddI8 4 0 1) := rfl

/-- The host's entry reads the same word. -/
theorem test_decode_table_word : decodeTableWord 32 0x00008410 = some (.vqaddS8 2 0 1) := rfl

/-! ## One step -/

/-- The register whose lanes of width w are xs, lane 0 first, and 0 beyond. -/
def lanesOf (w : Nat) (xs : List Int) : QWord := ofLanes w fun e => BitVec.ofInt w (xs.getD e 0)

/-- The register of four 32-bit words, the highest first, as the spec writes them. -/
def wordsOf (a b c d : Word) : QWord := a ++ b ++ c ++ d

/-- The reset state with Q0, Q1 and Q2 given. -/
def start (q0 q1 q2 : QWord) : State := ((State.reset.setQ 0 q0).setQ 1 q1).setQ 2 q2

/-- The state after one transaction on a state, or none where there is no next state. -/
def ran (t : Transaction) (s : State) : Option State :=
  match step { s with inputs := [.transaction t] } with
  | .next u => some u
  | _ => none

/-- The state after one step on a state, or none. -/
def next (r : Machine.Result) : Option State :=
  match r with
  | .next u => some u
  | _ => none

/-- A descriptor with SCALAR, every other port 0. -/
def withScalar (desc scalar : Word) : Transaction := { bareTransaction desc with scalar := scalar }

/-- A descriptor with ACC_IN. -/
def withAcc (desc : Word) (acc : DWord) : Transaction := { bareTransaction desc with accIn := acc }

/-- A descriptor with ADDR and FAULT_PC 0x77. -/
def withAddr (desc addr : Word) : Transaction := { bareTransaction desc with addr := addr, faultPc := 0x77 }

/-- Q2 and QC after one transaction. -/
def q2qc (t : Transaction) (s : State) : Option (QWord × Bool) :=
  (ran t s).map fun u => (u.q[2], statusQC u.status)

/-- RES after one transaction. -/
def resOf (t : Transaction) (s : State) : Option DWord := (ran t s).bind State.res

/-- The example of 41_bitwise.md for VAND. -/
theorem test_vand :
    q2qc (bareTransaction 0x00008400) (start (wordsOf 0x01234567 0x89ABCDEF 0xFEDCBA98 0x76543210) (wordsOf 0xFF00FF00
      0xF0F0F0F0 0x0F0F0F0F 0x00FF00FF) 0) = some (wordsOf 0x01004500 0x80A0C0E0 0x0E0C0A08 0x00540010, false) := by
  decide

/-- The example of 41_bitwise.md for VBIC. -/
theorem test_vbic :
    q2qc (bareTransaction 0x00008401) (start (wordsOf 0x01234567 0x89ABCDEF 0xFEDCBA98 0x76543210) (wordsOf 0xFF00FF00
      0xF0F0F0F0 0x0F0F0F0F 0x00FF00FF) 0) = some (wordsOf 0x00230067 0x090B0D0F 0xF0D0B090 0x76003200, false) := by
  decide

/-- The example of 41_bitwise.md for VORR. -/
theorem test_vorr :
    q2qc (bareTransaction 0x00008402) (start (wordsOf 0x01234567 0x89ABCDEF 0xFEDCBA98 0x76543210) (wordsOf 0xFF00FF00
      0xF0F0F0F0 0x0F0F0F0F 0x00FF00FF) 0) = some (wordsOf 0xFF23FF67 0xF9FBFDFF 0xFFDFBF9F 0x76FF32FF, false) := by
  decide

/-- The example of 41_bitwise.md for VORN. -/
theorem test_vorn :
    q2qc (bareTransaction 0x00008403) (start (wordsOf 0x01234567 0x89ABCDEF 0xFEDCBA98 0x76543210) (wordsOf 0xFF00FF00
      0xF0F0F0F0 0x0F0F0F0F 0x00FF00FF) 0) = some (wordsOf 0x01FF45FF 0x8FAFCFEF 0xFEFCFAF8 0xFF54FF10, false) := by
  decide

/-- The example of 41_bitwise.md for VEOR. -/
theorem test_veor :
    q2qc (bareTransaction 0x00008404) (start (wordsOf 0x01234567 0x89ABCDEF 0xFEDCBA98 0x76543210) (wordsOf 0xFF00FF00
      0xF0F0F0F0 0x0F0F0F0F 0x00FF00FF) 0) = some (wordsOf 0xFE23BA67 0x795B3D1F 0xF1D3B597 0x76AB32EF, false) := by
  decide

/-- The S8 example of R151. -/
theorem test_vadd_s8 :
    q2qc (bareTransaction 0x00008408) (start (lanesOf 8 [100, -100, 127, -128, 10, 0, -1, 1, 50, -50, 64, -64, 127,
      -128, 3, -3]) (lanesOf 8 [100, -100, 1, -1, 20, 0, -1, -1, 100, -100, 64, -65, -128, 127, -3, 3]) 0) = some
      (lanesOf 8 [-56, 56, -128, 127, 30, 0, -2, 0, -106, 106, -128, 127, -1, -1, 0, 0], false) := by
  decide +kernel

/-- 95_test_vectors.md section 5. -/
theorem test_vadd_i16 :
    q2qc (bareTransaction 0x00008448) (start (lanesOf 16 [32767, -1, 4660, 0, 1, 2, 3, 32768]) (lanesOf 16 [1, 1,
      4369, 0, -1, -2, -3, 32768]) 0) = some (wordsOf 0x00000000 0x00000000 0x00002345 0x00008000, false) := by
  decide

/-- 95_test_vectors.md section 5. -/
theorem test_vsub_i32 :
    q2qc (bareTransaction 0x00008489) (start (lanesOf 32 [0, 2147483648, 5, 7]) (lanesOf 32 [1, 1, 7, 5]) 0) = some
      (wordsOf 0x00000002 0xFFFFFFFE 0x7FFFFFFF 0xFFFFFFFF, false) := by
  decide

/-- 95_test_vectors.md section 5. -/
theorem test_vmul_i16 :
    q2qc (bareTransaction 0x0000844A) (start (lanesOf 16 [256, -1, 32767, 3]) (lanesOf 16 [256, -1, 2, -3]) 0) = some
      (wordsOf 0x00000000 0x00000000 0xFFF7FFFE 0x00010000, false) := by
  decide

/-- The U8 example of R154. -/
theorem test_vmax_u8 :
    q2qc (bareTransaction 0x0000850B) (start (lanesOf 8 [200, 255, 0, 1, 128, 127, 255, 0, 10, 20, 30, 40, 50, 60, 70,
      80]) (lanesOf 8 [100, 1, 1, 0, 128, 128, 255, 255, 5, 25, 30, 50, 40, 70, 60, 90]) 0) = some (lanesOf 8 [200, 255,
      1, 1, 128, 128, 255, 255, 10, 25, 30, 50, 50, 70, 70, 90], false) := by
  decide +kernel

/-- 95_test_vectors.md section 5. -/
theorem test_vmin_s32 :
    q2qc (bareTransaction 0x0000848C) (start (lanesOf 32 [-1, 2147483647, -2147483648, 0]) (lanesOf 32 [1,
      -2147483648, 2147483647, 0]) 0) = some (wordsOf 0x00000000 0x80000000 0x80000000 0xFFFFFFFF, false) := by
  decide

/-- 95_test_vectors.md section 5. -/
theorem test_vabd_s32 :
    q2qc (bareTransaction 0x0000848D) (start (lanesOf 32 [-2147483648, 2147483647, 5, 0]) (lanesOf 32 [1, -2147483648,
      9, 0]) 0) = some (wordsOf 0x00000000 0x00000004 0xFFFFFFFF 0x80000001, false) := by
  decide

/-- The S8 example of R157. -/
theorem test_vhadd_s8 :
    q2qc (bareTransaction 0x0000840E) (start (lanesOf 8 [100, -100, 127, -128, 10, 0, -1, 1, 50, -50, 64, -64, 127,
      -128, 3, -3]) (lanesOf 8 [100, -100, 1, -1, 20, 0, -1, -1, 100, -100, 64, -65, -128, 127, -3, 3]) 0) = some
      (lanesOf 8 [100, -100, 64, -65, 15, 0, -1, 0, 75, -75, 64, -65, -1, -1, 0, 0], false) := by
  decide +kernel

/-- 95_test_vectors.md section 5. -/
theorem test_vhsub_u16 :
    q2qc (bareTransaction 0x0000854F) (start (lanesOf 16 [0, 65535, 5]) (lanesOf 16 [65535, 0, 7]) 0) = some (wordsOf
      0x00000000 0x00000000 0x0000FFFF 0x7FFF8000, false) := by
  decide

/-- 95_test_vectors.md section 5. -/
theorem test_vqadd_s16 :
    q2qc (bareTransaction 0x00008450) (start (lanesOf 16 [32767, -32768, 100]) (lanesOf 16 [1, -1, -200]) 0) = some
      (wordsOf 0x00000000 0x00000000 0x0000FF9C 0x80007FFF, true) := by
  decide

/-- 95_test_vectors.md section 5. -/
theorem test_vqadd_u32_scalar :
    q2qc (withScalar 0x00040590 1) (start (lanesOf 32 [4294967295, 5, 0, 0]) 0 0) = some (wordsOf 0x00000001
      0x00000001 0x00000006 0xFFFFFFFF, true) := by
  decide

/-- 95_test_vectors.md section 5. -/
theorem test_vqsub_s32 :
    q2qc (bareTransaction 0x00008491) (start (lanesOf 32 [-2147483648, 2147483647, -1, 0]) (lanesOf 32 [1, -1,
      -2147483648, 0]) 0) = some (wordsOf 0x00000000 0x7FFFFFFF 0x7FFFFFFF 0x80000000, true) := by
  decide

/-- 95_test_vectors.md section 5. -/
theorem test_vqsub_u16 :
    q2qc (bareTransaction 0x00008551) (start (lanesOf 16 [0, 5, 65535]) (lanesOf 16 [1, 3, 65535]) 0) = some (wordsOf
      0x00000000 0x00000000 0x00000000 0x00020000, true) := by
  decide

/-- 95_test_vectors.md section 5. -/
theorem test_vshl_s16 :
    q2qc (bareTransaction 0x00008454) (start (lanesOf 16 [1, 1, -1, 16384, 1, -32768, 3, 3]) (lanesOf 16 [15, 16, -16,
      1, -1, -1, 258, 65281]) 0) = some (wordsOf 0x0006000C 0xC0000000 0x8000FFFF 0x00008000, false) := by
  decide

/-- 95_test_vectors.md section 5. -/
theorem test_vshl_u32 :
    q2qc (bareTransaction 0x00008594) (start (lanesOf 32 [1, 4294967295, 2147483648, 5]) (lanesOf 32 [31, -1, -31,
      32]) 0) = some (wordsOf 0x00000000 0x00000001 0x7FFFFFFF 0x80000000, false) := by
  decide

/-- 95_test_vectors.md section 5. -/
theorem test_vrshl_s32 :
    q2qc (bareTransaction 0x00008495) (start (lanesOf 32 [-1, 5, -5, 2147483647]) (lanesOf 32 [-1, -1, -1, -31]) 0) =
      some (wordsOf 0x00000001 0xFFFFFFFE 0x00000003 0x00000000, false) := by
  decide

/-- 95_test_vectors.md section 5. -/
theorem test_vqshl_s32 :
    q2qc (bareTransaction 0x00008496) (start (lanesOf 32 [1, -1, 1073741824, -1073741824]) (lanesOf 32 [31, 31, 1, 1])
      0) = some (wordsOf 0x80000000 0x7FFFFFFF 0x80000000 0x7FFFFFFF, true) := by
  decide

/-- 95_test_vectors.md section 5. -/
theorem test_vqrshl_s16 :
    q2qc (bareTransaction 0x00008457) (start (lanesOf 16 [32767, -32768, 3, -3, 16384, 1, 0, 0]) (lanesOf 16 [-1, -16,
      -1, -1, 1, -128, 0, 0]) 0) = some (wordsOf 0x00000000 0x00007FFF 0xFFFF0002 0x00004000, true) := by
  decide

/-- 95_test_vectors.md section 5. -/
theorem test_vmullb_s16 :
    q2qc (bareTransaction 0x00008458) (start (lanesOf 16 [-32768, 0, 32767, 0, -1, 0, 3, 0]) (lanesOf 16 [-32768, 0,
      32767, 0, 1, 0, -3, 0]) 0) = some (wordsOf 0xFFFFFFF7 0xFFFFFFFF 0x3FFF0001 0x40000000, false) := by
  decide

/-- 95_test_vectors.md section 5. -/
theorem test_vmullt_u16 :
    q2qc (bareTransaction 0x00008559) (start (lanesOf 16 [0, 65535, 0, 2, 0, 0, 0, 32768]) (lanesOf 16 [0, 65535, 0,
      3, 0, 0, 0, 2]) 0) = some (wordsOf 0x00010000 0x00000000 0x00000006 0xFFFE0001, false) := by
  decide

/-- 95_test_vectors.md section 5. -/
theorem test_vqdmulh_s32 :
    q2qc (bareTransaction 0x0000849A) (start (lanesOf 32 [-2147483648, 1073741824, -1, 2147483647]) (lanesOf 32
      [-2147483648, 1073741824, 1, 2147483647]) 0) = some (wordsOf 0x7FFFFFFE 0xFFFFFFFF 0x20000000 0x7FFFFFFF, true) :=
      by
  decide

/-- 95_test_vectors.md section 5. -/
theorem test_vqrdmulh_s32 :
    q2qc (bareTransaction 0x0000849B) (start (lanesOf 32 [-2147483648, 1073741824, -1, 2147483647]) (lanesOf 32
      [-2147483648, 1073741824, 1, 2147483647]) 0) = some (wordsOf 0x7FFFFFFE 0x00000000 0x20000000 0x7FFFFFFF, true) :=
      by
  decide

/-- The example of R191. -/
theorem test_vcadd90_s8 :
    q2qc (bareTransaction 0x0000841C) (start (lanesOf 8 [1, 2, 3, 4, 5, 6, 7, 8, -1, -2, -3, -4, 127, -128, 100,
      -100]) (lanesOf 8 [10, 20, 30, 40, 50, 60, 70, 80, 1, 1, 1, 1, 1, -1, -100, 100]) 0) = some (lanesOf 8 [-19, 12,
      -37, 34, -55, 56, -73, 78, -2, -1, -4, -3, -128, -127, 0, 56], false) := by
  decide +kernel

/-- 95_test_vectors.md section 6. -/
theorem test_vcadd270_i16 :
    q2qc (bareTransaction 0x0000845D) (start (lanesOf 16 [1, 2, 3, 4, 32767, -32768, 0, 0]) (lanesOf 16 [10, 20, 30,
      40, -1, 1, 0, 0]) 0) = some (wordsOf 0x00000000 0x80018000 0xFFE6002B 0xFFF80015, false) := by
  decide

/-- The S8 example of R195. -/
theorem test_vqdmladh_s8 :
    q2qc (bareTransaction 0x00008420) (start (lanesOf 8 [10, 20, -128, -128, 100, -100, 1, 1, 64, 64, 0, 0, 127, 127,
      -1, -1]) (lanesOf 8 [30, 40, -128, -128, 100, 100, 1, 1, 64, -64, 0, 0, 127, -128, 1, -1]) (lanesOf 8
      (List.replicate 16 85))) = some (lanesOf 8 [8, 85, 127, 85, 0, 85, 0, 85, 0, 85, 0, 85, -1, 85, 0, 85], true) :=
      by
  decide +kernel

/-- The S8 example of R196. -/
theorem test_vqdmladhx_s8 :
    q2qc (bareTransaction 0x00008421) (start (lanesOf 8 [10, 20, -128, -128, 100, -100, 1, 1, 64, 64, 0, 0, 127, 127,
      -1, -1]) (lanesOf 8 [30, 40, -128, -128, 100, 100, 1, 1, 64, -64, 0, 0, 127, -128, 1, -1]) (lanesOf 8
      (List.replicate 16 85))) = some (lanesOf 8 [85, 7, 85, 127, 85, 0, 85, 0, 85, 0, 85, 0, 85, -1, 85, 0], true) :=
      by
  decide +kernel

/-- 95_test_vectors.md section 6. -/
theorem test_vqdmladh_s16 :
    q2qc (bareTransaction 0x00008460) (start (lanesOf 16 [-32768, -32768, 16384, 16384, 100, 200, -1, -1]) (lanesOf 16
      [-32768, -32768, 16384, 16384, 300, -400, 1, 1]) (lanesOf 16 (List.replicate 8 0x5555))) = some (wordsOf
      0x5555FFFF 0x5555FFFE 0x55554000 0x55557FFF, true) := by
  decide

/-- 95_test_vectors.md section 6. -/
theorem test_vqrdmlsdhx_s16 :
    q2qc (bareTransaction 0x00008467) (start (lanesOf 16 [-32768, -32768, 16384, 16384, 100, 200, -1, -1]) (lanesOf 16
      [-32768, -32768, 16384, 16384, 300, -400, 1, 1]) (lanesOf 16 (List.replicate 8 0x5555))) = some (wordsOf
      0x00005555 0x00035555 0x00005555 0x00005555, false) := by
  decide

/-- The S8 example of R197. -/
theorem test_vqrdmladh_s8 :
    q2qc (bareTransaction 0x00008422) (start (lanesOf 8 [10, 20, -128, -128, 100, -100, 1, 1, 64, 64, 0, 0, 127, 127,
      -1, -1]) (lanesOf 8 [30, 40, -128, -128, 100, 100, 1, 1, 64, -64, 0, 0, 127, -128, 1, -1]) (lanesOf 8
      (List.replicate 16 85))) = some (lanesOf 8 [9, 85, 127, 85, 0, 85, 0, 85, 0, 85, 0, 85, -1, 85, 0, 85], true) :=
      by
  decide +kernel

/-- The S8 example of R198. -/
theorem test_vqrdmladhx_s8 :
    q2qc (bareTransaction 0x00008423) (start (lanesOf 8 [10, 20, -128, -128, 100, -100, 1, 1, 64, 64, 0, 0, 127, 127,
      -1, -1]) (lanesOf 8 [30, 40, -128, -128, 100, 100, 1, 1, 64, -64, 0, 0, 127, -128, 1, -1]) (lanesOf 8
      (List.replicate 16 85))) = some (lanesOf 8 [85, 8, 85, 127, 85, 0, 85, 0, 85, 0, 85, 0, 85, -1, 85, 0], true) :=
      by
  decide +kernel

/-- The S8 example of R199. -/
theorem test_vqdmlsdh_s8 :
    q2qc (bareTransaction 0x00008424) (start (lanesOf 8 [10, 20, -128, -128, 100, -100, 1, 1, 64, 64, 0, 0, 127, 127,
      -1, -1]) (lanesOf 8 [30, 40, -128, -128, 100, 100, 1, 1, 64, -64, 0, 0, 127, -128, 1, -1]) (lanesOf 8
      (List.replicate 16 85))) = some (lanesOf 8 [-4, 85, 0, 85, 127, 85, 0, 85, 64, 85, 0, 85, 127, 85, -1, 85], true)
      := by
  decide +kernel

/-- The S8 example of R200. -/
theorem test_vqdmlsdhx_s8 :
    q2qc (bareTransaction 0x00008425) (start (lanesOf 8 [10, 20, -128, -128, 100, -100, 1, 1, 64, 64, 0, 0, 127, 127,
      -1, -1]) (lanesOf 8 [30, 40, -128, -128, 100, 100, 1, 1, 64, -64, 0, 0, 127, -128, 1, -1]) (lanesOf 8
      (List.replicate 16 85))) = some (lanesOf 8 [85, 1, 85, 0, 85, -128, 85, 0, 85, 64, 85, 0, 85, 127, 85, -1], true)
      := by
  decide +kernel

/-- The S8 example of R201. -/
theorem test_vqrdmlsdh_s8 :
    q2qc (bareTransaction 0x00008426) (start (lanesOf 8 [10, 20, -128, -128, 100, -100, 1, 1, 64, 64, 0, 0, 127, 127,
      -1, -1]) (lanesOf 8 [30, 40, -128, -128, 100, 100, 1, 1, 64, -64, 0, 0, 127, -128, 1, -1]) (lanesOf 8
      (List.replicate 16 85))) = some (lanesOf 8 [-4, 85, 0, 85, 127, 85, 0, 85, 64, 85, 0, 85, 127, 85, 0, 85], true)
      := by
  decide +kernel

/-- The third lane is inactive and its carry is not captured: a corner case of R205. -/
theorem test_vadc_inactive_lane :
    (ran (bareTransaction 0x000084A8) { start (lanesOf 32 [0xFFFFFFFF, 0xFFFFFFFF, 0xFFFFFFFF, 0xFFFFFFFF]) (lanesOf
      32 [1, 0, 0, 0]) (lanesOf 32 [0x77777777, 0x77777777, 0x77777777, 0x77777777]) with vpr := 0x00880FFF }).map (fun
      u => (u.q[2], u.status)) = some (wordsOf 0x77777777 0x00000000 0x00000000 0x00000000, 0x20000000) := by
  decide

/-- Bytes are merged and no flag is written: a corner case of R205. -/
theorem test_vadc_bytes :
    (ran (bareTransaction 0x000084A8) { start (lanesOf 32 [4294967295, 305419896, 0, 0]) (lanesOf 32 [1, 286331153, 0,
      0]) (lanesOf 32 [0x77777777, 0x77777777, 0x77777777, 0x77777777]) with status := 0x20000000, vpr := 0x00880EEE
      }).map (fun u => (u.q[2], u.status)) = some (lanesOf 32 [119, 591751031, 119, 2004318071], 0x20000000) := by
  decide

/-- The corner case of R206 (90_conflicts.md C3). -/
theorem test_vadci :
    (ran (bareTransaction 0x000084A9) { start (lanesOf 32 [4294967295, 1, 0, 0]) (lanesOf 32 [1, 0, 0, 0]) (lanesOf 32
      [0x77777777, 0x77777777, 0x77777777, 0x77777777]) with vpr := 0x0088FFF0 }).map (fun u => (u.q[2], u.status)) =
      some (wordsOf 0x00000000 0x00000000 0x00000001 0x77777777, 0x00000000) := by
  decide

/-- The example of R207. -/
theorem test_vsbc :
    (ran (bareTransaction 0x000084AA) { start (lanesOf 32 [4294967295, 1, 0, 0]) (lanesOf 32 [1, 0, 0, 0]) 0 with
      status := 0x20000000 }).map (fun u => (u.q[2], u.status)) = some (lanesOf 32 [4294967294, 1, 0, 0], 0x20000000) :=
      by
  decide

/-- The example of R208. -/
theorem test_vsbci :
    (ran (bareTransaction 0x000084AB) { start (lanesOf 32 [5, 0, 0, 2147483648]) (lanesOf 32 [7, 0, 0, 1]) 0 with
      status := 0x98000000 }).map (fun u => (u.q[2], u.status)) = some (lanesOf 32 [4294967294, 4294967295, 4294967295,
      2147483646], 0x28000000) := by
  decide

/-- The S8 example of R212. -/
theorem test_vmladav_s8 :
    resOf (withAcc 0x0000802C 0x00000000000003E8) (start (lanesOf 8 [1, 2, 3, 4, 5, 6, 7, 8, -1, -2, -3, -4, 100,
      -100, 127, -128]) (lanesOf 8 [1, 1, 1, 1, 2, 2, 2, 2, 3, 3, 3, 3, -1, -1, -128, -128]) 0) = some
      0x0000000000000488 := by
  decide +kernel

/-- A corner case of R212 (wraps). -/
theorem test_vmladav_u32 :
    resOf (withAcc 0x000081AC 0x0000000000000000) (start (lanesOf 32 [0xFFFFFFFF, 0xFFFFFFFF, 0xFFFFFFFF, 0xFFFFFFFF])
      (lanesOf 32 [0xFFFFFFFF, 0xFFFFFFFF, 0xFFFFFFFF, 0xFFFFFFFF]) 0) = some 0xFFFFFFF800000004 := by
  decide

/-- 95_test_vectors.md section 7. -/
theorem test_vmladavx_s32 :
    resOf (withAcc 0x000080AD 0x0000000000000000) (start (lanesOf 32 [1, 2, 3, 4]) (lanesOf 32 [10, 20, 30, 40]) 0) =
      some 0x0000000000000118 := by
  decide

/-- The S8 example of R214. -/
theorem test_vmlsdav_s8 :
    resOf (withAcc 0x0000802E 0x0000000000000000) (start (lanesOf 8 [1, 2, 3, 4, 5, 6, 7, 8, -1, -2, -3, -4, 100,
      -100, 127, -128]) (lanesOf 8 [1, 1, 1, 1, 2, 2, 2, 2, 3, 3, 3, 3, -1, -1, -128, -128]) 0) = some
      0xFFFFFFFFFFFF7FB8 := by
  decide +kernel

/-- The S8 example of R215. -/
theorem test_vmlsdavx_s8 :
    resOf (withAcc 0x0000802F 0x0000000000000000) (start (lanesOf 8 [1, 2, 3, 4, 5, 6, 7, 8, -1, -2, -3, -4, 100,
      -100, 127, -128]) (lanesOf 8 [1, 1, 1, 1, 2, 2, 2, 2, 3, 3, 3, 3, -1, -1, -128, -128]) 0) = some
      0x0000000000008048 := by
  decide +kernel

/-- The worked example of R217. -/
theorem test_vrmlaldavh_worked :
    resOf (withAcc 0x000080B0 0x0000000000000000) { start (lanesOf 32 [2147483647, -2147483648, 5, 5]) (lanesOf 32
      [2147483647, -2147483648, 5, 5]) 0 with vpr := 0x008800FF } = some 0x007FFFFFFF000001 := by
  decide

/-- A corner case of R217. -/
theorem test_vrmlaldavh_u32 :
    resOf (withAcc 0x000081B0 0x0000000000000000) (start (lanesOf 32 [0xFFFFFFFF, 0xFFFFFFFF, 0xFFFFFFFF, 0xFFFFFFFF])
      (lanesOf 32 [0xFFFFFFFF, 0xFFFFFFFF, 0xFFFFFFFF, 0xFFFFFFFF]) 0) = some 0x03FFFFFFF8000002 := by
  decide

/-- The near-limit example of R218. -/
theorem test_vrmlaldavhx_s32 :
    resOf (withAcc 0x000080B1 0x0000000000000000) (start (lanesOf 32 [2147483647, -2147483648, 2147483647,
      -2147483648]) (lanesOf 32 [2147483647, -2147483648, -2147483648, 2147483647]) 0) = some 0x0000000000000002 := by
  decide

/-- The near-limit example of R219. -/
theorem test_vrmlsldavh_s32 :
    resOf (withAcc 0x000080B2 0x0000000000000000) (start (lanesOf 32 [2147483647, -2147483648, 2147483647,
      -2147483648]) (lanesOf 32 [2147483647, -2147483648, -2147483648, 2147483647]) 0) = some 0xFFFFFFFFFF000002 := by
  decide

/-- The near-limit example of R220. -/
theorem test_vrmlsldavhx_s32 :
    resOf (withAcc 0x000080B3 0x0000000000000000) (start (lanesOf 32 [2147483647, -2147483648, 2147483647,
      -2147483648]) (lanesOf 32 [2147483647, -2147483648, -2147483648, 2147483647]) 0) = some 0x0000000001000001 := by
  decide

/-- 95_test_vectors.md section 7. -/
theorem test_vaddv_s16 :
    resOf (withAcc 0x00008074 0x0000000000000005) (start 0 (lanesOf 16 [-1, -1, -1, -1, -1, -1, -1, -1]) 0) = some
      0xFFFFFFFFFFFFFFFD := by
  decide

/-- The masked example of R221. -/
theorem test_vaddv_masked :
    resOf (withAcc 0x00008074 0x0000000000000064) { start 0 (lanesOf 16 [1, 2, 3, 4, 5, 6, 7, 8]) 0 with vpr :=
      0x0088F0F0 } = some 0x000000000000007A := by
  decide

/-- The memory of 95_test_vectors.md section 8: 16 bytes at 0x1000. -/
def memory : List Host.Cell :=
  [(0x1000, 0x81), (0x1001, 0x02), (0x1002, 0xF3), (0x1003, 0x04), (0x1004, 0x85), (0x1005, 0x06), (0x1006, 0x77),
    (0x1007, 0x88)] ++
  [(0x1008, 0x09), (0x1009, 0xFA), (0x100A, 0x0B), (0x100B, 0x0C), (0x100C, 0xDD), (0x100D, 0x0E), (0x100E, 0x0F),
    (0x100F, 0x10)]

/-- The reset state with that memory and 0x55555555 in every word of Q0. -/
def loaded : State := { State.reset.setQ 0 (wordsOf 0x55555555 0x55555555 0x55555555 0x55555555) with mem := memory }

theorem test_memory_wf : memWf loaded.mem = true := by decide

/-- The example of R233. -/
theorem test_vldrb_s16 :
    (ran (withAddr 0x00000275 0x1000) loaded).map (fun u => u.q[1]) = some (lanesOf 16 [65409, 2, 65523, 4, 65413, 6,
      119, 65416]) := by
  decide +kernel

/-- 95_test_vectors.md section 8. -/
theorem test_vldrb_s32 :
    (ran (withAddr 0x000002B5 0x1000) loaded).map (fun u => u.q[1]) = some (wordsOf 0x00000004 0xFFFFFFF3 0x00000002
      0xFFFFFF81) := by
  decide +kernel

/-- 95_test_vectors.md section 8. -/
theorem test_vldrb_u32 :
    (ran (withAddr 0x000003B5 0x1000) loaded).map (fun u => u.q[1]) = some (wordsOf 0x00000004 0x000000F3 0x00000002
      0x00000081) := by
  decide +kernel

/-- The example of R233. -/
theorem test_vldrh_s32 :
    (ran (withAddr 0x000802B5 0x1000) loaded).map (fun u => u.q[1]) = some (lanesOf 32 [641, 1267, 1669, 4294936695])
      := by
  decide +kernel

/-- The example of R233, the same bytes under BIG (20_memory.md R64), and two rows of 95_test_vectors.md section 8: a
beat that ECI skips is kept under PRESERVE and under ZERO. -/
theorem test_vldrw_32 :
    (ran (withAddr 0x001002B5 0x1000) loaded).map (fun u => u.q[1]) =
      some (wordsOf 0x100F0EDD 0x0C0BFA09 0x88770685 0x04F30281) ∧
    (ran (withAddr 0x001002B5 0x1000) { loaded with cfg := { Config.default with endian := .big } }).map
      (fun u => u.q[1]) = some (wordsOf 0xDD0E0F10 0x09FA0B0C 0x85067788 0x8102F304) ∧
    (ran (withAddr 0x001000B5 0x1000) { loaded with eci := 1, vpr := 0x0088F0FF }).map
      (fun u => (u.q[0], u.vpr, u.eci)) =
      some (wordsOf 0x100F0EDD 0x55555555 0x88770685 0x55555555, 0x0000F0FF, 0) ∧
    (ran (withAddr 0x001000B5 0x1000)
      { loaded with eci := 1, vpr := 0x0088F0FF, cfg := { Config.default with loadInactive := .zero } }).map
      (fun u => u.q[0]) = some (wordsOf 0x100F0EDD 0 0x88770685 0x55555555) := by
  decide +kernel

/-- The worked fault example, 46_memory_access.md R237. -/
theorem test_vldrw_fault :
    (ran (withAddr 0x001000B5 0x1000)
      { loaded with
        vpr := 0x00CC0FFF
        memFaults := [{ addr := 0x1008, size := .word, dir := .read, cause := 9 }] }).map
      (fun u => (u.q[0], u.vpr, u.eci, u.outcome, u.requests.length)) =
      some (wordsOf 0x55555555 0x55555555 0x88770685 0x04F30281, 0x00CC0FFF, 0,
        some (.memoryFault { addr := 0x1008, size := .word, dir := .read, element := 2, faultPc := 0x77, cause := 9 }),
        3) := by
  decide

/-- 95_test_vectors.md section 8: the address wraps. -/
theorem test_vldrb_wraps :
    (ran (withAddr 0x00000235 0xFFFFFFFE)
      { State.reset with mem := [(0, 3), (1, 4), (13, 16), (0xFFFFFFFE, 1), (0xFFFFFFFF, 2)] }).map (fun u => u.q[1]) =
      some (wordsOf 0x10000000 0 0 0x04030201) := by
  decide +kernel

/-- 95_test_vectors.md section 8 (the byte 0 stored at 0x4003 is not listed). -/
theorem test_vstrb_32 :
    (ran (withAddr 0x000004B6 0x4000) (start 0 0 (lanesOf 32 [0x11223344, 0x55667788, 0x99AABBCC, 0xDDEEFF00]))).map
      State.mem = some [(0x4000, 0x44), (0x4001, 0x88), (0x4002, 0xCC)] := by
  decide

/-- The masked example of 46_memory_access.md R234. -/
theorem test_vstrb_16 :
    (ran (withAddr 0x00000476 0x2000)
      { start 0 0 (lanesOf 16 [0x1181, 0x2202, 0x33F3, 0x4404, 0x5585, 0x6606, 0x7777, 0x8888]) with
        vpr := 0x0088FF3F }).map State.mem =
      some [(0x2000, 0x81), (0x2001, 0x02), (0x2002, 0xF3), (0x2004, 0x85), (0x2005, 0x06), (0x2006, 0x77),
        (0x2007, 0x88)] := by
  decide

/-- The faulting example of 46_memory_access.md R234: element 0 is stored and nothing else. -/
theorem test_vstrw_fault :
    (ran (withAddr 0x00100436 0x2000) State.reset).isSome = true ∧
    (ran (withAddr 0x001004B6 0x2000)
      { start 0 0 (lanesOf 32 [0xAABBCCDD, 0x11223344, 0x55667788, 0x99AABBCC]) with
        memFaults := [{ addr := 0x2004, size := .word, dir := .write, cause := 1 }] }).map State.mem =
      some [(0x2000, 0xDD), (0x2001, 0xCC), (0x2002, 0xBB), (0x2003, 0xAA)] := by
  decide

/-- MSR, 95_test_vectors.md section 9. -/
theorem test_msr :
    (ran (withScalar 0x00000038 0xFFFFFFFF) State.reset).map State.vpr = some 0x00FFFFFF ∧
    (ran (withScalar 0x00001038 0xFFFFFFFF) State.reset).map State.status = some 0xF8000000 ∧
    (ran (withScalar 0x00002038 0x80000001) State.reset).map State.loopcount = some 0x80000001 ∧
    (ran (withScalar 0x00003038 0x0000000C) State.reset).map State.ltpsize = some 4 ∧
    (ran (withScalar 0x00004038 0x0000000B) State.reset).map State.eci = some 3 := by
  decide

/-- MRS, 95_test_vectors.md section 9. -/
theorem test_mrs :
    resOf (bareTransaction 0x00000039) { State.reset with vpr := 0x00FFFFFF } = some 0x00FFFFFF ∧
    resOf (bareTransaction 0x00001039) { State.reset with status := 0xF8000000 } = some 0xF8000000 ∧
    resOf (bareTransaction 0x00002039) { State.reset with loopcount := 5 } = some 5 ∧
    resOf (bareTransaction 0x00003039) State.reset = some 4 ∧
    resOf (bareTransaction 0x00004039) { State.reset with eci := 3 } = some 3 := by
  decide

/-- 95_test_vectors.md section 9, I1 and I2: ICV, and then no step. -/
theorem test_icv :
    (ran (bareTransaction 0x00008408) { State.reset with eci := 3 }).map
      (fun u => (u.outcome, u.halted, u.eci, u.vpr)) = some (some .icv, true, 3, 0) ∧
    ran (bareTransaction 0x00004038) { State.reset with eci := 3, halted := true } = none := by
  decide

/-- 95_test_vectors.md section 9, I5: ILLEGAL has priority, and nothing changes. -/
theorem test_illegal :
    (ran (bareTransaction 0x000000C8) { State.reset with eci := 7, vpr := 0x00CC1234 }).map
      (fun u => (u.outcome, u.halted, u.eci, u.vpr)) = some (some .illegal, false, 7, 0x00CC1234) := by
  decide

/-- Rows of 95_test_vectors.md section 3: the Advancer. -/
theorem test_advance :
    (ran (bareTransaction 0x00008408) { State.reset with vpr := 0x00CC1234 }).map State.vpr = some 0x0088EDCB ∧
    (ran (bareTransaction 0x00008408) { State.reset with vpr := 0x00C41234 }).map State.vpr = some 0x0088ED34 ∧
    (ran (bareTransaction 0x00008408) { State.reset with eci := 5 }).map State.eci = some 1 := by
  decide

/-- Rows of 95_test_vectors.md section 2: tail predication. -/
theorem test_resolve :
    ({ State.reset with loopcount := 5, ltpsize := 0 } : State).resolve 0xFFFF = 0x001F ∧
    ({ State.reset with loopcount := 17, ltpsize := 0 } : State).resolve 0xFFFF = 0xFFFF ∧
    ({ State.reset with loopcount := 3, ltpsize := 1 } : State).resolve 0xFFFF = 0x003F ∧
    ({ State.reset with loopcount := 0, ltpsize := 0 } : State).resolve 0xFFFF = 0 := by
  decide

/-- The host's entry: the very next step runs the word. -/
theorem test_withFetchWord :
    step (State.reset.withFetchWord 32 0x00008408) =
      exec (.vaddI8 2 0 1) (State.reset.present (bareTransaction 0x00008408)) := rfl

/-! ## Witnesses: a state and operands that meet every hypothesis of a statement -/

/-- A pending transaction on the reset state. -/
def pending (desc : Word) : State := { State.reset with inputs := [.transaction (bareTransaction desc)] }

/-- A reset draw with every bit set. -/
def fullDraw : ResetDraw where
  q := Vector.replicate 8 (BitVec.allOnes 128)
  loopcount := 0xFFFFFFFF
  n := true
  z := true
  c := true
  v := true
  qc := true

theorem witness_LegalWordIsTheEncodingOfItsInstruction : decode 0x00038E04 = .ok (.veor 7 0 7) := rfl

theorem witness_StepRunsTheDecodedOperation :
    (pending 0x0003FE04).inputs = .transaction (bareTransaction 0x0003FE04) :: [] ∧ (pending 0x0003FE04).halted = false ∧
      decode (bareTransaction 0x0003FE04).desc = .ok (.veor 7 7 7) ∧
      (Instr.veor 7 7 7).wellFormed (pending 0x0003FE04).cfg.nq = true := ⟨rfl, rfl, rfl, rfl⟩

/-- The first disjunct: OP 5 is in no row. -/
theorem witness_IllegalDescriptorChangesNoState_table :
    (pending 0x00000005).inputs = .transaction (bareTransaction 0x00000005) :: [] ∧ (pending 0x00000005).halted = false ∧
      ¬ LegalFields (Fields.ofWord (bareTransaction 0x00000005).desc) := by
  refine ⟨rfl, rfl, ?_⟩
  unfold LegalFields LegalRow.Allows LoadAllowed StoreAllowed StateAccessAllowed
  decide

/-- The second disjunct: a register field equal to NQ, the boundary. -/
theorem witness_IllegalDescriptorChangesNoState_register :
    let s : State := { pending 0x00008804 with cfg := { Config.default with nq := 4 } }
    s.inputs = .transaction (bareTransaction 0x00008804) :: [] ∧ s.halted = false ∧
      decode (bareTransaction 0x00008804).desc = .ok (.veor 4 0 1) ∧
      ∃ r ∈ (Instr.veor 4 0 1).registers, s.cfg.nq ≤ r.val := ⟨rfl, rfl, rfl, 4, by decide, by decide⟩

theorem witness_HaltedPsuTakesNoTransactionUntilReset_halted :
    let s : State := { pending 0x00008404 with halted := true }
    s.inputs = .transaction (bareTransaction 0x00008404) :: [] ∧ s.halted = true := ⟨rfl, rfl⟩

theorem witness_HaltedPsuTakesNoTransactionUntilReset_reset :
    let s : State := { State.reset with halted := true, eci := 3, inputs := [.reset fullDraw] }
    s.halted = true ∧ ∃ u, step s = .next u ∧ u.halted = false := ⟨rfl, _, rfl, rfl⟩

theorem witness_HaltedPsuTakesNoTransactionUntilReset_icv :
    let s : State := { pending 0x00008404 with eci := 7 }
    s.halted = false ∧ ∃ u, step s = .next u ∧ u.halted = true := ⟨rfl, _, rfl, rfl⟩

/-- Of CoreResetSetsTheSpecifiedValues and FirstOperationAfterResetHasEveryLaneActive. -/
theorem witness_CoreReset :
    ({ State.reset with halted := true, eci := 3, inputs := [.reset fullDraw] } : State).inputs =
      .reset fullDraw :: [] := rfl

/-- The last register of a machine with 8, the first that a machine with 7 does not have, and the last address. -/
theorem witness_OutsideEventsActBetweenTransactions :
    State.reset.inputs = [] ∧
      (({ State.reset with inputs := [.writeQ 7 1] } : State).inputs = .writeQ 7 1 :: [] ∧
        (7 : QReg).val < State.reset.cfg.nq) ∧
      (let s : State := { State.reset with cfg := { Config.default with nq := 7 }, inputs := [.writeQ 7 1] }
       s.inputs = .writeQ 7 1 :: [] ∧ s.cfg.nq ≤ (7 : QReg).val) ∧
      (({ State.reset with inputs := [.writeMem 0xFFFFFFFF 1] } : State).inputs = .writeMem 0xFFFFFFFF 1 :: [] ∧
        memWf State.reset.mem = true) ∧
      ({ State.reset with inputs := [.setFaults []] } : State).inputs = .setFaults [] :: [] :=
  ⟨rfl, ⟨rfl, by decide⟩, ⟨rfl, by decide⟩, ⟨rfl, rfl⟩, rfl⟩

theorem witness_EveryStepKeepsTheInvariant : State.reset.Inv ∧ ∃ t, step (pending 0x00008404) = .next t ∧
    (pending 0x00008404).Inv := ⟨by decide, _, rfl, by decide⟩

/-- A halted state meets the invariant too: its last clause has a state to speak of. -/
theorem witness_Inv_halted : ({ State.reset with halted := true, eci := 6 } : State).Inv := by decide

theorem witness_SaturationFlagIsSticky :
    (let s : State := { pending 0x00008404 with status := 0x08000000 }
     statusQC s.status = true ∧ ∃ t, step s = .next t) ∧
      (Instr.vadcI32 2 0 1 ∈ carryFamily 2 0 1 ∧ ∃ t, exec (.vadcI32 2 0 1) State.reset = .next t) ∧
      (Instr.vaddI8 2 0 1 ∈ (vaddForms 2 0 1).map Prod.fst ∧ ∃ t, exec (.vaddI8 2 0 1) State.reset = .next t) :=
  ⟨⟨rfl, _, rfl⟩, ⟨by decide, _, rfl⟩, ⟨by decide, _, rfl⟩⟩

theorem witness_ConditionFlagsChangeOnlyByCarryFamilyAndMsr :
    (∀ d n m, Instr.vmladavS8 0 1 ∉ carryFamily d n m) ∧ Instr.vmladavS8 0 1 ≠ .msrStatus ∧
      (∃ t, exec (.vmladavS8 0 1) State.reset = .next t) ∧ (26 : Nat) ≠ 27 ∧ (28 : Nat) ≠ 27 := by
  refine ⟨fun d n m => ?_, by decide, ⟨_, rfl⟩, by decide, by decide⟩
  simp [carryFamily]

theorem witness_LoopProgressIsWrittenOnlyByMsrAndReset : ∃ t, step (pending 0x00002038) = .next t := ⟨_, rfl⟩

theorem witness_ResolvedMaskBitByBit : eciExecMask State.reset.eci = some 0xFFFF#16 ∧
    eciExecMask ({ State.reset with eci := 5 } : State).eci = some 0xF000#16 ∧ 15 < 16 := ⟨rfl, rfl, by decide⟩

/-- Both cases of the mask fields, and both cases of the gate, at the boundary 8 of a mask field. -/
theorem witness_AdvanceVprInvertsAndShifts :
    (vprMask01 0x0000FFFF = 0 ∧ vprMask23 0x0000FFFF = 0) ∧ ¬ (vprMask01 0x00080000 = 0 ∧ vprMask23 0x00080000 = 0) ∧
      (∃ b, 4 ≤ b ∧ b < 8 ∧ (0xFFF0#16).getLsbD b = true) ∧
      ¬ (true = false ∨ ∃ b, 4 ≤ b ∧ b < 8 ∧ (0xFF00#16).getLsbD b = true) := by
  refine ⟨by decide, by decide, ⟨4, by decide⟩, ?_⟩
  rintro (h | ⟨b, h1, h2, h3⟩)
  · exact absurd h (by decide)
  · have hb : b = 4 ∨ b = 5 ∨ b = 6 ∨ b = 7 := by omega
    rcases hb with rfl | rfl | rfl | rfl <;> exact absurd h3 (by decide)

theorem witness_VectorOperationAdvancesExactlyWhenItCompletes :
    Instr.vldrw32 0 ∉ stateAccess ∧ eciExecMask State.reset.eci = some 0xFFFF#16 := ⟨by decide, rfl⟩

theorem witness_ReservedEciRaisesConsistencyViolation :
    (Instr.vand 2 0 1 ∉ stateAccess ∧ EciReserved ({ State.reset with eci := 3 } : State).eci) ∧
      EciReserved (({ State.reset with ports := withScalar 0x00004038 7 } : State).ports.scalar.extractLsb' 0 3) ∧
      EciReserved ({ State.reset with eci := 6 } : State).eci := by decide

/-- Mask fields 9 and 15, the ends of their range. -/
theorem witness_ThenElseMasksAreComplementary :
    let s : State := { State.reset with vpr := 0x00F91234 }
    Instr.vaddI8 2 0 1 ∉ stateAccess ∧ s.eci = 0#3 ∧ TailInactive s ∧ 8 < (vprMask01 s.vpr).toNat ∧
      8 < (vprMask23 s.vpr).toNat ∧ ∃ t, exec (.vaddI8 2 0 1) s = .next t ∧ t.outcome = some .done :=
  ⟨by decide, rfl, by decide, by decide, by decide, _, rfl, rfl⟩

/-- Tail predication inactive by LOOPCOUNT: one more than 16 >> LTPSIZE, at the smallest and the largest such LTPSIZE. -/
theorem witness_TailInactive_loopcount :
    TailInactive { State.reset with ltpsize := 0, loopcount := 17 } ∧
      ¬ TailInactive { State.reset with ltpsize := 0, loopcount := 16 } ∧
      TailInactive { State.reset with ltpsize := 3, loopcount := 3 } ∧
      ¬ TailInactive { State.reset with ltpsize := 3, loopcount := 2 } := by
  decide

theorem witness_ThenElseMasksAreComplementary_loopcount :
    let s : State := { State.reset with vpr := 0x00F91234, ltpsize := 0, loopcount := 17 }
    Instr.vaddI8 2 0 1 ∉ stateAccess ∧ s.eci = 0#3 ∧ TailInactive s ∧ 8 < (vprMask01 s.vpr).toNat ∧
      8 < (vprMask23 s.vpr).toNat ∧ ∃ t, exec (.vaddI8 2 0 1) s = .next t ∧ t.outcome = some .done :=
  ⟨by decide, rfl, by decide, by decide, by decide, _, rfl, rfl⟩

theorem witness_MergeIdentities : 15 < 16 ∧ 64 ∈ [8, 16, 32, 64] ∧ 1 < lanes 64 ∧ lanePredicate 0x00FF#16 1 64 = 0 := by
  decide

theorem witness_ExpansionTableExpandsEachPredicateBit : 8 ∈ [1, 2, 4, 8] ∧ 7 < 8 := by decide

theorem witness_BitwiseOperations : eciExecMask State.reset.eci = some 0xFFFF#16 ∧ 127 < 128 := ⟨rfl, by decide⟩

/-- Of the statements over the lane-wise families: a legal ECI, and a form of each list. -/
theorem witness_LaneFamilies :
    eciExecMask ({ State.reset with eci := 4 } : State).eci = some 0xF000#16 ∧
      (.vaddI8Scalar 2 0, .w8, false, .scalar) ∈ vaddForms 2 0 1 ∧
      (.vmaxU32 2 0 1, .w32, true, .vector 1) ∈ vmaxForms 2 0 1 ∧
      (.vhaddS8Scalar 2 0, .w8, false, .scalar) ∈ vhaddForms 2 0 1 ∧
      (.vqaddU16 2 0 1, .w16, true, .vector 1) ∈ vqaddForms 2 0 1 ∧
      (.vqdmulhS32 2 0 1, .w32, false, .vector 1) ∈ vqdmulhForms 2 0 1 := by
  decide

/-- Of WrappingShiftsByRegister and SaturatingShiftsByRegister, both halves of each. -/
theorem witness_Shifts :
    eciExecMask State.reset.eci = some 0xFFFF#16 ∧ (.vshlS8 2 0 1, .w8, false, .vector 1) ∈ vshlForms 2 0 1 ∧
      (.vrshlU32Scalar 2 0, .w32, true, .scalar) ∈ vrshlForms 2 0 1 ∧
      (.vqshlS8 2 0 1, .w8, false, .vector 1) ∈ vqshlForms 2 0 1 ∧
      (.vqrshlU32Scalar 2 0, .w32, true, .scalar) ∈ vqrshlForms 2 0 1 := by
  decide

/-- Of WideningMultiplyIsExact and ComplexRotateAdd, both halves of each. -/
theorem witness_PairForms :
    eciExecMask State.reset.eci = some 0xFFFF#16 ∧ (.vmullbS8 2 0 1, .w8, false, .vector 1) ∈ vmullbForms 2 0 1 ∧
      (.vmulltU32 2 0 1, .w32, true, .vector 1) ∈ vmulltForms 2 0 1 ∧
      (.vcaddI8Rot90 2 0 1, .w8, false, .vector 1) ∈ vcadd90Forms 2 0 1 ∧
      (.vcaddI32Rot270 2 0 1, .w32, false, .vector 1) ∈ vcadd270Forms 2 0 1 := by
  decide

/-- Made and unmade lanes at both ends of the register, with and without exchange. -/
theorem witness_DualMultiplyHighWritesAlternateLanes :
    eciExecMask State.reset.eci = some 0xFFFF#16 ∧
      (.vqdmladhS8 2 0 1, .w8, false, false, false) ∈ dualHighForms 2 0 1 ∧
      (.vqrdmlsdhxS32 2 0 1, .w32, true, true, true) ∈ dualHighForms 2 0 1 ∧ 15 < lanes Width.w8.bits := by
  decide

theorem witness_CarryChainThreadsActiveLanes :
    eciExecMask State.reset.eci = some 0xFFFF#16 ∧ State.reset.resolve 0xFFFF#16 &&& 0x1111#16 ≠ 0 ∧
      ¬ (({ State.reset with vpr := 0x00880EEE } : State).resolve 0xFFFF#16 &&& 0x1111#16 ≠ 0) := by
  decide

theorem witness_CarryFamilyIsA128BitAdder : State.reset.eci = 0#3 ∧ State.reset.resolve 0xFFFF#16 = 0xFFFF#16 := by
  decide

theorem witness_Reductions :
    eciExecMask State.reset.eci = some 0xFFFF#16 ∧ (.vmlsdavxS32 0 1, .w32, 1, true, false) ∈ dualAccForms 0 1 ∧
      (.vrmlsldavhxS32 0 1, 1, true, false) ∈ roundDualForms 0 1 ∧ (.vaddvU8 1, .w8, true) ∈ vaddvForms 1 := by
  decide

/-- The reset state with lane 3 alone inactive. -/
def lane3Off : State := { State.reset with vpr := 0x00880FFF }

/-- The same state with other registers: lane 3 of Q1, one lane of Q0, and Q2. -/
def lane3OffWith (q0 : QWord) : State :=
  { lane3Off with q := ((lane3Off.q.set 1 (wordsOf 7 0 0 0)).set 0 q0).set 2 5 }

/-- Q0 differs in the inactive lane. -/
theorem witness_ReductionResultReadsOnlyActiveLanesOperands_plain :
    eciExecMask lane3Off.eci = some 0xFFFF#16 ∧ (.vaddvS32 1, .w32, false) ∈ vaddvForms 1 ∧
      (.vmladavS32 0 1, .w32, 0, false, false) ∈ dualAccForms 0 1 ∧
      (.vrmlaldavhU32 0 1, 0, false, true) ∈ roundDualForms 0 1 ∧
      (lane3OffWith (wordsOf 9 0 0 0)).q ≠ lane3Off.q ∧
      ∀ k, k < lanes Width.w32.bits → active (lane3Off.resolve 0xFFFF#16) k Width.w32.bits = true →
        (lane3OffWith (wordsOf 9 0 0 0)).lane 1 (k ^^^ 0) Width.w32.bits = lane3Off.lane 1 (k ^^^ 0) Width.w32.bits ∧
        (lane3OffWith (wordsOf 9 0 0 0)).lane 0 (k ^^^ 0) Width.w32.bits = lane3Off.lane 0 (k ^^^ 0) Width.w32.bits := by
  decide

/-- Q0 differs in lane 2, the partner of the inactive lane. -/
theorem witness_ReductionResultReadsOnlyActiveLanesOperands_exchange :
    eciExecMask lane3Off.eci = some 0xFFFF#16 ∧ (.vmlsdavxS32 0 1, .w32, 1, true, false) ∈ dualAccForms 0 1 ∧
      (.vrmlsldavhxS32 0 1, 1, true, false) ∈ roundDualForms 0 1 ∧
      (lane3OffWith (wordsOf 0 9 0 0)).q ≠ lane3Off.q ∧
      ∀ k, k < lanes Width.w32.bits → active (lane3Off.resolve 0xFFFF#16) k Width.w32.bits = true →
        (lane3OffWith (wordsOf 0 9 0 0)).lane 1 (k ^^^ 0) Width.w32.bits = lane3Off.lane 1 (k ^^^ 0) Width.w32.bits ∧
        (lane3OffWith (wordsOf 0 9 0 0)).lane 0 (k ^^^ 1) Width.w32.bits = lane3Off.lane 0 (k ^^^ 1) Width.w32.bits := by
  decide

theorem witness_LowHalfOfResultIsThe32BitSum :
    eciExecMask State.reset.eci = some 0xFFFF#16 ∧
      (.vmlsdavxS32 0 1, .w32, 1, true, false) ∈ dualAccForms 0 1 ∧ (.vaddvS32 1, .w32, false) ∈ vaddvForms 1 := by
  decide

theorem witness_LoadFillsActiveLanes :
    eciExecMask State.reset.eci = some 0xFFFF#16 ∧ (.vldrhS32 0, .w32, .half, false) ∈ loadForms 0 ∧
      ∀ k, k < lanes Width.w32.bits → active (State.reset.resolve 0xFFFF#16) k Width.w32.bits = true →
        State.reset.elementFault .half .read k = none := by
  decide

/-- The reset state with one faulting element request: element k of a word access at address 0. -/
def faulting (dir : Dir) (k : Nat) : State :=
  { State.reset with memFaults := [{ addr := BitVec.ofNat 32 (4 * k), size := .word, dir := dir, cause := 5 }] }

/-- The first and the last element. -/
theorem witness_FaultingLoadCommitsEarlierElements :
    (.vldrw32 0, .w32, .word, false) ∈ loadForms 0 ∧ ∀ k ∈ [0, 3],
      eciExecMask (faulting .read k).eci = some 0xFFFF#16 ∧ k < lanes Width.w32.bits ∧
        active ((faulting .read k).resolve 0xFFFF#16) k Width.w32.bits = true ∧
        (faulting .read k).elementFault .word .read k = some 5 ∧
        ∀ j, j < k → active ((faulting .read k).resolve 0xFFFF#16) j Width.w32.bits = true →
          (faulting .read k).elementFault .word .read j = none := by
  decide

theorem witness_StoreWritesActiveElements :
    eciExecMask State.reset.eci = some 0xFFFF#16 ∧ memWf State.reset.mem = true ∧
      (.vstrb16 0, .w16, .byte) ∈ storeForms 0 ∧
      ∀ k, k < lanes Width.w16.bits → active (State.reset.resolve 0xFFFF#16) k Width.w16.bits = true →
        State.reset.elementFault .byte .write k = none := by
  decide

theorem witness_FaultingStoreCommitsEarlierElements :
    (.vstrw32 0, .w32, .word) ∈ storeForms 0 ∧ ∀ k ∈ [0, 3],
      eciExecMask (faulting .write k).eci = some 0xFFFF#16 ∧ memWf (faulting .write k).mem = true ∧
        k < lanes Width.w32.bits ∧ active ((faulting .write k).resolve 0xFFFF#16) k Width.w32.bits = true ∧
        (faulting .write k).elementFault .word .write k = some 5 ∧
        ∀ j, j < k → active ((faulting .write k).resolve 0xFFFF#16) j Width.w32.bits = true →
          (faulting .write k).elementFault .word .write j = none := by
  decide

/-- At the address where the access wraps; tail predication inactive by LTPSIZE, and by LOOPCOUNT. -/
theorem witness_LoadReturnsTheStoredRegister :
    let s : State := { State.reset with ports := withAddr 0 0xFFFFFFFE }
    memWf s.mem = true ∧ s.eci = 0#3 ∧ (TailInactive s ∧ TailInactive { s with ltpsize := 2, loopcount := 5 }) ∧
      vprMask01 s.vpr = 0 ∧ vprMask23 s.vpr = 0 ∧ s.memFaults = [] := by
  decide

/-- What a load that faults at element k and its two repetitions come to: the element and whether all answer. -/
def resumes (k : Nat) (code : BitVec 3) : Option Nat :=
  match next (exec (.vldrw32 0) (faulting .read k)) with
  | none => none
  | some t =>
    match next (exec (.vldrw32 0) { faulting .read k with memFaults := [] }),
      next (exec (.vldrw32 0) { t with memFaults := [], eci := code }), t.outcome with
    | some _, some _, some (.memoryFault info) => some info.element
    | _, _, _ => none

/-- Each of the three elements. -/
theorem witness_ResumedLoadEqualsUninterruptedLoad :
    (∀ k, (faulting .read k).eci = 0#3) ∧ resumes 1 1 = some 1 ∧ resumes 2 2 = some 2 ∧ resumes 3 4 = some 3 :=
  ⟨fun _ => rfl, by decide +kernel, by decide +kernel, by decide +kernel⟩

theorem witness_MrsReadsTheNamedRegister : (.mrsStatus, .status) ∈ mrsForms := by decide

/-- One transaction of each code: VADDV, VADD with ECI = 7, the reserved OP 5, a faulting VLDRW (60_exceptions.md
R255). -/
theorem test_outcome_codes :
    ((next (step (pending 0x000080B4))).bind State.outcomeCode) = some 0 ∧
      ((next (step { pending 0x00008408 with eci := 7 })).bind State.outcomeCode) = some 2 ∧
      ((next (step (pending 0x00000005))).bind State.outcomeCode) = some 3 ∧
      ((next (step { faulting .read 3 with inputs := [.transaction (bareTransaction 0x001000B5)] })).bind
        State.outcomeCode) = some 1 := by
  refine ⟨rfl, rfl, rfl, ?_⟩
  decide +kernel

theorem witness_TransactionsReportTheirOutcomeCode :
    (pending 0x000080B4).inputs = .transaction (bareTransaction 0x000080B4) :: [] ∧
      (∃ t, step (pending 0x000080B4) = .next t ∧ t.res.isSome = true) ∧
      decode (bareTransaction 0x000080B4).desc = .ok (.vaddvS32 1) := ⟨rfl, ⟨_, rfl, rfl⟩, rfl⟩

end Sys2Proof.Tests
end

section
/-! SUPPORT. What a step and an operation can do, each said once as a case split, and the statements of 00_scope.md:
the writers of LOOPCOUNT and LTPSIZE (R10, R37, R38, R126), and Sat (R13). -/

namespace Sys2Proof.Machine

/-! ## What the body of an operation leaves -/

/-- The state a body leaves, completed or aborted. -/
def Body.state : Body → State
  | .completed s _ => s
  | .aborted s _ => s

@[simp] theorem Body.state_completed (s : State) (res : Option DWord) : (Body.completed s res).state = s := rfl

@[simp] theorem Body.state_aborted (s : State) (info : MemFaultInfo) : (Body.aborted s info).state = s := rfl

/-- The element loop of a load changes vector registers and the request list only, from any state. -/
theorem loadElements_frame (w : Width) (ms : MSize) (u : Bool) (d : QReg) (m e : Mask) (es : List Nat) (s : State) :
    ∃ q reqs, (loadElements w ms u d m e es s).state = { s with q := q, requests := reqs } := by
  induction es generalizing s with
  | nil => exact ⟨s.q, s.requests, rfl⟩
  | cons k es ih =>
    simp only [loadElements]
    split
    · split
      · split
        · exact ⟨_, _, rfl⟩
        · exact ih _
      · exact ih _
    · exact ih s

/-- The element loop of a store changes memory and the request list only, from any state. -/
theorem storeElements_frame (w : Width) (ms : MSize) (d : QReg) (m : Mask) (es : List Nat) (s : State) :
    ∃ mem reqs, (storeElements w ms d m es s).state = { s with mem := mem, requests := reqs } := by
  induction es generalizing s with
  | nil => exact ⟨s.mem, s.requests, rfl⟩
  | cons k es ih =>
    simp only [storeElements]
    split
    · split
      · exact ⟨_, _, rfl⟩
      · exact ih _
    · exact ih s

/-- What no body changes: all that no vector operation changes, and VPR and ECI, which are the Advancer's
(40_predication.md R120, R126). -/
def BodyFrame (s u : State) : Prop := KeepsRest s u ∧ KeepsPredicates s u

theorem bodyFrame_refl (s : State) : BodyFrame s s := ⟨⟨rfl, rfl, rfl, rfl, rfl, rfl, rfl⟩, rfl, rfl⟩

theorem bodyFrame_commit (s : State) (d : QReg) (m : Mask) (x : Effects) : BodyFrame s (s.commit d m x) :=
  ⟨⟨rfl, rfl, rfl, rfl, rfl, rfl, rfl⟩, rfl, rfl⟩

theorem bodyFrame_loadElements (w : Width) (ms : MSize) (u : Bool) (d : QReg) (m e : Mask) (es : List Nat)
    (s : State) : BodyFrame s (loadElements w ms u d m e es s).state := by
  obtain ⟨q, reqs, h⟩ := loadElements_frame w ms u d m e es s
  rw [h]
  exact ⟨⟨rfl, rfl, rfl, rfl, rfl, rfl, rfl⟩, rfl, rfl⟩

theorem bodyFrame_storeElements (w : Width) (ms : MSize) (d : QReg) (m : Mask) (es : List Nat) (s : State) :
    BodyFrame s (storeElements w ms d m es s).state := by
  obtain ⟨mem, reqs, h⟩ := storeElements_frame w ms d m es s
  rw [h]
  exact ⟨⟨rfl, rfl, rfl, rfl, rfl, rfl, rfl⟩, rfl, rfl⟩

/-! ## What an operation can do -/

/-- The ways operation i leads from s to t. -/
inductive ExecCase (i : Instr) (s t : State) : Prop where
  /-- MSR of register r. -/
  | msr (r : Sysreg) (hi : (i, r) ∈ msrForms) (ht : t = (s.writeSysreg r s.ports.scalar).finish .done none)
  /-- MRS of register r. -/
  | mrs (r : Sysreg) (hi : (i, r) ∈ mrsForms) (ht : t = s.finish .done (some ((s.readSysreg r).setWidth 64)))
  /-- A vector operation that met a reserved ECI (60_exceptions.md R252). -/
  | icv (hr : EciReserved s.eci) (ht : t = s.halt.finish .icv none)
  /-- A vector operation whose body left u, then the Advancer (40_predication.md R123). -/
  | completed (u : State) (e : Mask) (res : Option DWord) (he : eciExecMask s.eci = some e) (hu : BodyFrame s u)
      (ht : t = (u.advance e).finish .done res)
  /-- A memory fault, with what was committed before it in u (46_memory_access.md R231, R232). -/
  | aborted (u : State) (info : MemFaultInfo) (hu : BodyFrame s u) (ht : t = u.finish (.memoryFault info) none)

/-- The execution sequence is one of the last three cases when its body keeps the frame. -/
theorem execCase_of_execute {i : Instr} {s t : State} {body : Mask → Mask → Body}
    (h : execute s body = .next t) (hbody : ∀ m e, BodyFrame s (body m e).state) : ExecCase i s t := by
  rcases execute_cases h with ⟨hr, ht⟩ | ⟨e, he, ⟨u, res, hu, ht⟩ | ⟨u, info, hu, ht⟩⟩
  · exact .icv hr ht
  · have hkeeps := hbody (s.resolve e) e
    rw [hu, Body.state_completed] at hkeeps
    exact .completed u e res he hkeeps ht
  · have hkeeps := hbody (s.resolve e) e
    rw [hu, Body.state_aborted] at hkeeps
    exact .aborted u info hkeeps ht

/-- Every vector operation commits its effects as its body. -/
theorem execCase_of_vectorOp {i : Instr} {s t : State} {d : QReg} {effects : Mask → Effects}
    (h : vectorOp d effects s = .next t) : ExecCase i s t :=
  execCase_of_execute h fun m _ => bodyFrame_commit s d m (effects m)

/-- Whatever operation answers a next state, one of the cases holds. -/
theorem execCase_of_exec {i : Instr} {s t : State} (h : exec i s = .next t) : ExecCase i s t := by
  cases exec_shape s i with
  | vector d effects hop => exact execCase_of_vectorOp (hop.symm.trans h)
  | carry cin inv always d n m hop => exact execCase_of_vectorOp (hop.symm.trans h)
  | reduce value hop => exact execCase_of_execute (hop.symm.trans h) fun _ _ => bodyFrame_refl s
  | load w ms u d hop =>
    exact execCase_of_execute (hop.symm.trans h) fun m e => bodyFrame_loadElements w ms u d m e _ s
  | store w ms d hop =>
    exact execCase_of_execute (hop.symm.trans h) fun m _ => bodyFrame_storeElements w ms d m _ s
  | write r hop hi =>
    rw [hop, writeState_eq] at h
    injection h with ht
    exact .msr r hi ht.symm
  | read r hop hi =>
    rw [hop, readState_eq] at h
    injection h with ht
    exact .mrs r hi ht.symm

/-! ## What a step can do -/

/-- The descriptors that run: those that decode to an operation naming only registers the machine has
(30_encoding.md R84). -/
theorem decodeFor_eq_ok {nq : Nat} {w : Word} {i : Instr} (h : decodeFor nq w = .ok i) :
    decode w = .ok i ∧ i.wellFormed nq = true := by
  unfold decodeFor at h
  split at h
  · cases h
  next j hj =>
    split at h
    next hwf =>
      cases h
      exact ⟨hj, hwf⟩
    · cases h

/-- The ways a step leads from s to t: nothing pending, or one case for each event taken. -/
inductive StepCase (s t : State) : Prop where
  /-- Nothing is pending (70_reset_and_hazards.md R271). -/
  | idle (hin : s.inputs = []) (ht : t = s)
  /-- A core reset. -/
  | reset (draw : ResetDraw) (rest : List Input) (hin : s.inputs = .reset draw :: rest)
      (ht : t = (s.withInputs rest).coreReset draw)
  /-- A direct write of a register. -/
  | writeQ (r : QReg) (v : QWord) (rest : List Input) (hin : s.inputs = .writeQ r v :: rest)
      (ht : t = writeDirect r v (s.withInputs rest))
  /-- Another agent's store. -/
  | writeMem (addr : Word) (b : Byte) (rest : List Input) (hin : s.inputs = .writeMem addr b :: rest)
      (ht : t = storeFromOutside addr b (s.withInputs rest))
  /-- A change of the fault oracle. -/
  | setFaults (faults : List FaultEntry) (rest : List Input) (hin : s.inputs = .setFaults faults :: rest)
      (ht : t = changeFaults faults (s.withInputs rest))
  /-- A refused descriptor (60_exceptions.md R253). -/
  | illegal (tx : Transaction) (rest : List Input) (hin : s.inputs = .transaction tx :: rest)
      (hrun : s.halted = false) (ht : t = ((s.withInputs rest).present tx).finish .illegal none)
  /-- A transaction whose operation i runs. -/
  | run (tx : Transaction) (rest : List Input) (i : Instr) (hin : s.inputs = .transaction tx :: rest)
      (hrun : s.halted = false) (hdec : decode tx.desc = .ok i) (hwf : i.wellFormed s.cfg.nq = true)
      (ht : exec i ((s.withInputs rest).present tx) = .next t)

/-- A transaction that answers a next state met a running PSU, and was refused or ran its operation. -/
theorem stepCase_of_runTransaction {s t : State} {tx : Transaction} {rest : List Input}
    (hin : s.inputs = .transaction tx :: rest) (h : runTransaction tx (s.withInputs rest) = .next t) :
    StepCase s t := by
  unfold runTransaction at h
  split at h
  · cases h
  next hrun =>
    have hrun : s.halted = false := by simpa using hrun
    split at h
    · injection h with ht
      exact .illegal tx rest hin hrun ht.symm
    next i hi =>
      obtain ⟨hdec, hwf⟩ := decodeFor_eq_ok hi
      exact .run tx rest i hin hrun hdec hwf h

/-- Whatever step answers a next state, one of the cases holds. -/
theorem stepCase_of_step {s t : State} (h : step s = .next t) : StepCase s t := by
  cases hin : s.inputs with
  | nil =>
    rw [step_of_idle hin] at h
    injection h with ht
    exact .idle hin ht.symm
  | cons event rest =>
    rw [step_of_inputs hin] at h
    cases event with
    | transaction tx => exact stepCase_of_runTransaction hin h
    | reset draw =>
      injection h with ht
      exact .reset draw rest hin ht.symm
    | writeQ r v =>
      injection h with ht
      exact .writeQ r v rest hin ht.symm
    | writeMem addr b =>
      injection h with ht
      exact .writeMem addr b rest hin ht.symm
    | setFaults faults =>
      injection h with ht
      exact .setFaults faults rest hin ht.symm

/-! ## The writers of LOOPCOUNT and LTPSIZE -/

/-- A direct write of a register changes nothing outside the register file (70_reset_and_hazards.md R276). -/
theorem keepsRest_writeDirect (r : QReg) (v : QWord) (s : State) : KeepsRest s (writeDirect r v s) := by
  unfold writeDirect
  split <;> exact ⟨rfl, rfl, rfl, rfl, rfl, rfl, rfl⟩

/-- Of the operations, only MSR LOOPCOUNT writes LOOPCOUNT and only MSR LTPSIZE writes LTPSIZE; none writes a parameter
(40_predication.md R126). -/
theorem exec_loopState {i : Instr} {s t : State} (h : exec i s = .next t) :
    t.cfg = s.cfg ∧ (t.loopcount = s.loopcount ∨ i = .msrLoopcount) ∧ (t.ltpsize = s.ltpsize ∨ i = .msrLtpsize) := by
  cases execCase_of_exec h with
  | msr r hi ht =>
    subst ht
    cases r with
    | loopcount => exact ⟨rfl, .inr (by simpa [msrForms] using hi), .inl rfl⟩
    | ltpsize => exact ⟨rfl, .inl rfl, .inr (by simpa [msrForms] using hi)⟩
    | vpr | status | eci => exact ⟨rfl, .inl rfl, .inl rfl⟩
  | mrs r hi ht =>
    subst ht
    exact ⟨rfl, .inl rfl, .inl rfl⟩
  | icv hr ht =>
    subst ht
    exact ⟨rfl, .inl rfl, .inl rfl⟩
  | completed u e res he hu ht =>
    obtain ⟨⟨hloop, hltp, -, -, -, hcfg, -⟩, -⟩ := hu
    subst ht
    exact ⟨hcfg, .inl hloop, .inl hltp⟩
  | aborted u info hu ht =>
    obtain ⟨⟨hloop, hltp, -, -, -, hcfg, -⟩, -⟩ := hu
    subst ht
    exact ⟨hcfg, .inl hloop, .inl hltp⟩

/-- Settles O15, by the cases of a step; in the case of an operation, by the cases of the operation. -/
theorem loopProgressIsWrittenOnlyByMsrAndReset : Obligations.LoopProgressIsWrittenOnlyByMsrAndReset := by
  intro s t h
  cases stepCase_of_step h with
  | idle hin ht =>
    subst ht
    exact ⟨rfl, .inl rfl, .inl rfl⟩
  | reset draw rest hin ht =>
    subst ht
    exact ⟨rfl, .inr (.inl ⟨draw, rest, hin⟩), .inr (.inl ⟨draw, rest, hin⟩)⟩
  | writeQ r v rest hin ht =>
    obtain ⟨hloop, hltp, -, -, -, hcfg, -⟩ := keepsRest_writeDirect r v (s.withInputs rest)
    subst ht
    exact ⟨hcfg, .inl hloop, .inl hltp⟩
  | writeMem addr b rest hin ht =>
    subst ht
    exact ⟨rfl, .inl rfl, .inl rfl⟩
  | setFaults faults rest hin ht =>
    subst ht
    exact ⟨rfl, .inl rfl, .inl rfl⟩
  | illegal tx rest hin hrun ht =>
    subst ht
    exact ⟨rfl, .inl rfl, .inl rfl⟩
  | run tx rest i hin hrun hdec hwf hexec =>
    obtain ⟨hcfg, hloop, hltp⟩ := exec_loopState hexec
    refine ⟨hcfg, hloop.imp_right fun hi => .inr ?_, hltp.imp_right fun hi => .inr ?_⟩
    · exact ⟨tx, rest, hin, hi ▸ hdec⟩
    · exact ⟨tx, rest, hin, hi ▸ hdec⟩

/-! ## Sat -/

/-- Sat's indicator says whether the result differs from the exact value (00_scope.md R13). -/
theorem sat_indicates_iff_ne (v : Int) (w : Nat) (u : Bool) : (sat v w u).2 = true ↔ (sat v w u).1 ≠ v := by
  unfold sat
  split
  next hlow => simpa using hlow.ne'
  next =>
    split
    next hhigh => simpa using hhigh.ne
    next => simp

/-- Settles O24: the result, the indicator twice, and the four bounds of the ranges. -/
theorem satClampsAndIndicates : Obligations.SatClampsAndIndicates :=
  ⟨fun v w u => ⟨sat_eq_clamp v w u, sat_indicates_iff_ne v w u, sat_indicates v w u⟩,
    fun _ => ⟨rfl, rfl, rfl, rfl⟩⟩

end Sys2Proof.Machine
end

section
/-! SUPPORT. What an operation does to STATUS, memory, VPR and HALTED, each said once, and the statements of
10_state.md that turn on it: the invariant of the state (R34, R41, R49), the flags (R42 to R44), reset (R51), HALTED
(R49, R252) and the mask of a block of conditional operations (R36). -/

namespace Sys2Proof.Machine

/-! ## What the execution sequence leaves in STATUS and memory -/

/-- The Advancer and the end of a transaction touch neither STATUS nor memory: what holds of them before the operation
and after its body holds after it. -/
theorem execute_status_mem {P : Word → List Host.Cell → Prop} {s t : State} {body : Mask → Mask → Body}
    (h : execute s body = .next t) (hs : P s.status s.mem)
    (hbody : ∀ m e, P (body m e).state.status (body m e).state.mem) : P t.status t.mem := by
  rcases execute_cases h with ⟨-, rfl⟩ | ⟨e, -, ⟨u, res, hu, rfl⟩ | ⟨u, info, hu, rfl⟩⟩
  · exact hs
  · simpa [hu] using hbody (s.resolve e) e
  · simpa [hu] using hbody (s.resolve e) e

/-- The element loop of a load does not touch STATUS or memory. -/
theorem loadElements_status_mem (w : Width) (ms : MSize) (u : Bool) (d : QReg) (m e : Mask) (es : List Nat)
    (s : State) :
    (loadElements w ms u d m e es s).state.status = s.status ∧ (loadElements w ms u d m e es s).state.mem = s.mem := by
  obtain ⟨q, reqs, h⟩ := loadElements_frame w ms u d m e es s
  exact h ▸ ⟨rfl, rfl⟩

/-- The element loop of a store does not touch STATUS. -/
theorem storeElements_status (w : Width) (ms : MSize) (d : QReg) (m : Mask) (es : List Nat) (s : State) :
    (storeElements w ms d m es s).state.status = s.status := by
  obtain ⟨mem, reqs, h⟩ := storeElements_frame w ms d m es s
  exact h ▸ rfl

/-- The element loop of a store keeps the canonical form of memory, whatever its elements. -/
theorem storeElements_wf (w : Width) (ms : MSize) (d : QReg) (m : Mask) (es : List Nat) {s : State}
    (hwf : memWf s.mem = true) : memWf (storeElements w ms d m es s).state.mem = true := by
  induction es generalizing s with
  | nil => exact hwf
  | cons k es ih =>
    simp only [storeElements]
    split
    · split
      · exact hwf
      · exact ih (writeValue_wf _ _ _ _ hwf)
    · exact ih hwf

/-- What holds of STATUS before an operation and after its body holds after it. -/
theorem execute_status {P : Word → Prop} {s t : State} {body : Mask → Mask → Body}
    (h : execute s body = .next t) (hs : P s.status) (hbody : ∀ m e, P (body m e).state.status) : P t.status :=
  execute_status_mem (P := fun st _ => P st) h hs hbody

/-- What holds of STATUS before a vector operation and after its status step holds after it. -/
theorem vectorOp_status {P : Word → Prop} {s t : State} {d : QReg} {effects : Mask → Effects}
    (h : vectorOp d effects s = .next t) (hs : P s.status) (hx : ∀ m, P (statusAfter m (effects m) s.status)) :
    P t.status :=
  execute_status h hs fun m _ => hx m

/-- The execution sequence keeps the canonical form of memory when its body does. -/
theorem execute_mem_wf {s t : State} {body : Mask → Mask → Body} (h : execute s body = .next t)
    (hwf : memWf s.mem = true) (hbody : ∀ m e, memWf (body m e).state.mem = true) : memWf t.mem = true :=
  execute_status_mem (P := fun _ mem => memWf mem = true) h hwf hbody

/-- A vector operation writes no memory. -/
theorem vectorOp_mem_wf {s t : State} {d : QReg} {effects : Mask → Effects} (h : vectorOp d effects s = .next t)
    (hwf : memWf s.mem = true) : memWf t.mem = true :=
  execute_mem_wf h hwf fun _ _ => hwf

/-- Every operation keeps the canonical form of memory. -/
theorem exec_mem_wf {i : Instr} {s t : State} (h : exec i s = .next t) (hwf : memWf s.mem = true) :
    memWf t.mem = true := by
  cases exec_shape s i with
  | vector d effects hop => exact vectorOp_mem_wf (hop.symm.trans h) hwf
  | carry cin inv always d n m hop => exact vectorOp_mem_wf (hop.symm.trans h) hwf
  | reduce value hop => exact execute_mem_wf (hop.symm.trans h) hwf fun _ _ => hwf
  | load w ms u d hop =>
    refine execute_mem_wf (hop.symm.trans h) hwf fun m e => ?_
    rw [(loadElements_status_mem w ms u d m e _ s).2]
    exact hwf
  | store w ms d hop =>
    exact execute_mem_wf (hop.symm.trans h) hwf fun m _ => storeElements_wf w ms d m _ hwf
  | write r hop hi =>
    rw [hop, writeState_eq] at h
    cases h
    cases r <;> exact hwf
  | read r hop hi =>
    rw [hop, readState_eq] at h
    cases h
    exact hwf

/-! ## The writes of STATUS -/

/-- The values operation i may leave in STATUS, from s (10_state.md R42 to R44). -/
inductive StatusWrite (i : Instr) (s : State) : Word → Prop where
  /-- The QC latch; without an indicator it leaves STATUS as it was. -/
  | latch (q : Bool) : StatusWrite i s (latchQC q s.status)
  /-- The flag write of the carry family. -/
  | flags (d n m : QReg) (c : Bool) (hi : i ∈ carryFamily d n m) : StatusWrite i s (flagWrite c s.status)
  /-- MSR STATUS. -/
  | msr (hi : i = .msrStatus) : StatusWrite i s (s.ports.scalar &&& 0xF8000000#32)

/-- STATUS as it was. -/
theorem StatusWrite.same (i : Instr) (s : State) : StatusWrite i s s.status := .latch false

/-- Of the writers of the special registers, only MSR STATUS writes STATUS. -/
theorem statusWrite_writeSysreg {i : Instr} {r : Sysreg} (hi : (i, r) ∈ msrForms) (s : State) :
    StatusWrite i s (s.writeSysreg r s.ports.scalar).status := by
  cases r with
  | status => exact .msr (by simpa [msrForms] using hi)
  | vpr | loopcount | ltpsize | eci => exact .same i s

/-- An operation without a flag write latches QC. -/
theorem statusAfter_none {m : Mask} {x : Effects} (hc : x.carry = none) (st : Word) :
    statusAfter m x st = latchQC ((x.sat &&& (m &&& x.wsel)) != 0) st := by
  simp [statusAfter, hc]

/-- Whatever operation answers a next state, it left STATUS one of these values. -/
theorem exec_statusWrite {i : Instr} {s t : State} (h : exec i s = .next t) : StatusWrite i s t.status := by
  cases exec_shape s i with
  | vector d effects hop hc =>
    refine vectorOp_status (hop.symm.trans h) (.same i s) fun m => ?_
    rw [statusAfter_none (hc m)]
    exact .latch _
  | carry cin inv always d n m hop hi =>
    refine vectorOp_status (hop.symm.trans h) (.same i s) fun mask => ?_
    dsimp only
    split
    · rw [statusAfter_carry rfl rfl]
      exact .flags d n m _ hi
    · rw [statusAfter_plain rfl rfl]
      exact .same i s
  | reduce value hop => exact execute_status (hop.symm.trans h) (.same i s) fun _ _ => .same i s
  | load w ms u d hop =>
    refine execute_status (hop.symm.trans h) (.same i s) fun m e => ?_
    rw [(loadElements_status_mem w ms u d m e _ s).1]
    exact .same i s
  | store w ms d hop =>
    refine execute_status (hop.symm.trans h) (.same i s) fun m _ => ?_
    rw [storeElements_status w ms d m _ s]
    exact .same i s
  | write r hop hi =>
    rw [hop, writeState_eq] at h
    cases h
    exact statusWrite_writeSysreg hi s
  | read r hop hi =>
    rw [hop, readState_eq] at h
    cases h
    exact .same i s

/-- The bits of STATUS below QC read as one field (10_state.md R41). -/
theorem status_low_iff (st : Word) : st.extractLsb' 0 27 = 0#27 ↔ ∀ b, b < 27 → st.getLsbD b = false := by
  constructor
  · intro h b hb
    simpa [hb] using congrArg (fun z => z.getLsbD b) h
  · intro h
    apply BitVec.eq_of_getLsbD_eq
    intro b hb
    simp [hb, h b hb]

/-- No write of STATUS sets a bit that STATUS does not implement (10_state.md R41). -/
theorem StatusWrite.low {i : Instr} {s : State} {st : Word} (h : StatusWrite i s st)
    (hs : s.status.extractLsb' 0 27 = 0#27) : st.extractLsb' 0 27 = 0#27 := by
  rw [status_low_iff] at hs ⊢
  intro b hb
  cases h with
  | latch q => simp [getLsbD_latchQC, hs b hb, hb.ne]
  | flags d n m c hi =>
    rw [getLsbD_flagWrite, if_pos (by omega)]
    exact hs b hb
  | msr hi =>
    have hmask : (0xF8000000#32).getLsbD b = false :=
      (status_low_iff 0xF8000000#32).mp (by decide) b hb
    rw [BitVec.getLsbD_and, hmask, Bool.and_false]

/-- No write of STATUS but MSR's clears QC (10_state.md R42). -/
theorem StatusWrite.keeps_qc {i : Instr} {s : State} {st : Word} (h : StatusWrite i s st) (hi : i ≠ .msrStatus)
    (hs : statusQC s.status = true) : statusQC st = true := by
  cases h with
  | latch q => rw [statusQC_latchQC, hs, Bool.true_or]
  | flags d n m c _ =>
    rw [statusQC, getLsbD_flagWrite, if_pos (by decide)]
    exact hs
  | msr hmsr => exact absurd hmsr hi

/-! ## The invariant -/

/-- The bits MSR VPR writes lie inside the fields of VPR (10_state.md R34). -/
theorem and_vprMask_high (x : Word) : (x &&& 0x00FFFFFF#32).extractLsb' 24 8 = 0#8 := by
  have hmask : (0x00FFFFFF#32).extractLsb' 24 8 = 0#8 := by decide
  rw [BitVec.extractLsb'_and, hmask, BitVec.and_zero]

/-- Every operation keeps the bits VPR does not implement at 0 (10_state.md R34). -/
theorem exec_vpr_high {i : Instr} {s t : State} (h : exec i s = .next t) (hs : s.vpr.extractLsb' 24 8 = 0#8) :
    t.vpr.extractLsb' 24 8 = 0#8 := by
  cases execCase_of_exec h with
  | msr r hi ht =>
    subst ht
    cases r with
    | vpr => exact and_vprMask_high _
    | status | loopcount | ltpsize | eci => exact hs
  | mrs r hi ht => exact ht ▸ hs
  | icv hr ht => exact ht ▸ hs
  | completed u e res he hu ht =>
    obtain ⟨-, hvpr, -⟩ := hu
    subst ht
    exact advanceVpr_high (hvpr ▸ hs)
  | aborted u info hu ht =>
    obtain ⟨-, hvpr, -⟩ := hu
    subst ht
    exact hvpr ▸ hs

/-- An operation leaves HALTED as it was unless it met a reserved ECI (60_exceptions.md R252). -/
theorem exec_halted {i : Instr} {s t : State} (h : exec i s = .next t) :
    t.halted = s.halted ∨ (EciReserved s.eci ∧ t = s.halt.finish .icv none) := by
  cases execCase_of_exec h with
  | msr r hi ht => exact .inl (by subst ht; cases r <;> rfl)
  | mrs r hi ht => exact .inl (ht ▸ rfl)
  | icv hr ht => exact .inr ⟨hr, ht⟩
  | completed u e res he hu ht =>
    obtain ⟨⟨-, -, hhalted, -⟩, -⟩ := hu
    exact .inl (ht ▸ hhalted)
  | aborted u info hu ht =>
    obtain ⟨⟨-, -, hhalted, -⟩, -⟩ := hu
    exact .inl (ht ▸ hhalted)

/-- An operation that a running PSU executes keeps the invariant. -/
theorem exec_inv {i : Instr} {s t : State} (h : exec i s = .next t) (hrun : s.halted = false) (hs : s.Inv) :
    t.Inv := by
  obtain ⟨hmem, hvpr, hstatus, -⟩ := hs
  refine ⟨exec_mem_wf h hmem, exec_vpr_high h hvpr, (exec_statusWrite h).low hstatus, fun hhalted => ?_⟩
  rcases exec_halted h with hsame | ⟨hr, ht⟩
  · exact absurd (hsame.symm.trans hhalted) (by simp [hrun])
  · exact ht ▸ hr

/-- Settles O12, by the cases of a step. -/
theorem everyStepKeepsTheInvariant : Obligations.EveryStepKeepsTheInvariant := by
  intro s t hs h
  cases stepCase_of_step h with
  | idle hin ht => exact ht ▸ hs
  | reset draw rest hin ht =>
    obtain ⟨hmem, -⟩ := hs
    obtain ⟨-, -, -, -, -, hlow⟩ := statusOf_flags draw.n draw.z draw.c draw.v draw.qc
    subst ht
    exact ⟨hmem, (by decide : (0#32).extractLsb' 24 8 = 0#8), hlow, nofun⟩
  | writeQ r v rest hin ht =>
    subst ht
    unfold writeDirect
    split <;> exact hs
  | writeMem addr b rest hin ht =>
    obtain ⟨hmem, hrest⟩ := hs
    subst ht
    exact ⟨writeByte_wf addr b hmem, hrest⟩
  | setFaults faults rest hin ht => exact ht ▸ hs
  | illegal tx rest hin hrun ht => exact ht ▸ hs
  | run tx rest i hin hrun hdec hwf hexec => exact exec_inv hexec hrun hs

/-! ## HALTED -/

/-- A transaction has no step while HALTED = 1 (10_state.md R49). -/
theorem step_transaction_halted {s : State} {tx : Transaction} {rest : List Input}
    (hin : s.inputs = .transaction tx :: rest) (hhalted : s.halted = true) : step s = .fault .halted := by
  rw [step_of_inputs hin]
  exact if_pos hhalted

/-- A direct write of a register leaves HALTED as it was. -/
theorem writeDirect_halted (r : QReg) (v : QWord) (s : State) : (writeDirect r v s).halted = s.halted := by
  obtain ⟨-, -, hhalted, -⟩ := keepsRest_writeDirect r v s
  exact hhalted

/-- A step leaves HALTED as it was unless it resets the PSU or runs an operation that meets a reserved ECI. -/
theorem step_halted {s t : State} (h : step s = .next t) :
    t.halted = s.halted ∨ (∃ draw rest, s.inputs = .reset draw :: rest ∧ t.halted = false) ∨
      (EciReserved s.eci ∧ t.halted = true ∧ t.outcome = some .icv ∧ ∃ tx rest, s.inputs = .transaction tx :: rest) := by
  cases stepCase_of_step h with
  | idle hin ht => exact .inl (ht ▸ rfl)
  | reset draw rest hin ht => exact .inr (.inl ⟨draw, rest, hin, ht ▸ rfl⟩)
  | writeQ r v rest hin ht => exact .inl (ht ▸ writeDirect_halted r v _)
  | writeMem addr b rest hin ht => exact .inl (ht ▸ rfl)
  | setFaults faults rest hin ht => exact .inl (ht ▸ rfl)
  | illegal tx rest hin hrun ht => exact .inl (ht ▸ rfl)
  | run tx rest i hin hrun hdec hwf hexec =>
    rcases exec_halted hexec with hsame | ⟨hr, ht⟩
    · exact .inl hsame
    · exact .inr (.inr ⟨hr, ht ▸ rfl, ht ▸ rfl, tx, rest, hin⟩)

/-- Settles O7, by what a step does to HALTED. -/
theorem haltedPsuTakesNoTransactionUntilReset : Obligations.HaltedPsuTakesNoTransactionUntilReset := by
  refine ⟨fun s tx rest => step_transaction_halted, fun s u hs h hu => ?_, fun s u hs h hu => ?_⟩
  · rcases step_halted h with hsame | ⟨draw, rest, hin, -⟩ | ⟨-, hhalted, -⟩
    · simp [hs, hu] at hsame
    · exact ⟨draw, rest, hin⟩
    · simp [hu] at hhalted
  · rcases step_halted h with hsame | ⟨-, -, -, hrun⟩ | ⟨hr, -, hicv, htx⟩
    · simp [hs, hu] at hsame
    · simp [hu] at hrun
    · exact ⟨hr, hicv, htx⟩

/-! ## The flags -/

/-- Settles O14: the QC latch is the only write of STATUS that the other operations make. -/
theorem conditionFlagsChangeOnlyByCarryFamilyAndMsr : Obligations.ConditionFlagsChangeOnlyByCarryFamilyAndMsr := by
  intro i s t hcarry hmsr h b hb
  have hwrite := exec_statusWrite h
  generalize t.status = st at hwrite ⊢
  cases hwrite with
  | latch q => simp [getLsbD_latchQC, hb]
  | flags d n m c hi => exact absurd hi (hcarry d n m)
  | msr hi => exact absurd hi hmsr

/-- A step clears QC only by a reset event or MSR STATUS (10_state.md R42). -/
theorem step_keeps_qc {s t : State} (hs : statusQC s.status = true) (h : step s = .next t) :
    statusQC t.status = true ∨ (∃ draw rest, s.inputs = .reset draw :: rest) ∨
      ∃ tx rest, s.inputs = .transaction tx :: rest ∧ decode tx.desc = .ok .msrStatus := by
  cases stepCase_of_step h with
  | idle hin ht => exact .inl (ht ▸ hs)
  | reset draw rest hin ht => exact .inr (.inl ⟨draw, rest, hin⟩)
  | writeQ r v rest hin ht =>
    refine .inl ?_
    subst ht
    unfold writeDirect
    split <;> exact hs
  | writeMem addr b rest hin ht => exact .inl (ht ▸ hs)
  | setFaults faults rest hin ht => exact .inl (ht ▸ hs)
  | illegal tx rest hin hrun ht => exact .inl (ht ▸ hs)
  | run tx rest i hin hrun hdec hwf hexec =>
    by_cases hi : i = .msrStatus
    · exact .inr (.inr ⟨tx, rest, hin, hi ▸ hdec⟩)
    · exact .inl ((exec_statusWrite hexec).keeps_qc hi hs)

/-! ## The operations that do not saturate -/

/-- The operation leaves QC as it was. -/
def LeavesQC (i : Instr) : Prop := ∀ s t : State, exec i s = .next t → statusQC t.status = statusQC s.status

/-- Without saturation indicators QC stays, whether or not the operation writes the flags. -/
theorem statusQC_statusAfter_of_sat {x : Effects} (hx : x.sat = 0) (m : Mask) (st : Word) :
    statusQC (statusAfter m x st) = statusQC st := by
  cases hc : x.carry with
  | none => rw [statusAfter_plain hc hx]
  | some c =>
    rw [statusAfter_carry hc hx, statusQC, getLsbD_flagWrite, if_pos (by decide)]
    rfl

/-- The execution sequence leaves QC as it was when its body does. -/
theorem execute_statusQC {s t : State} {body : Mask → Mask → Body} (h : execute s body = .next t)
    (hbody : ∀ m e, statusQC (body m e).state.status = statusQC s.status) : statusQC t.status = statusQC s.status :=
  execute_status (P := fun st => statusQC st = statusQC s.status) h rfl hbody

/-- A vector operation without indicators leaves QC as it was. -/
theorem vectorOp_statusQC {s t : State} {d : QReg} {effects : Mask → Effects} (h : vectorOp d effects s = .next t)
    (hx : ∀ m, (effects m).sat = 0) : statusQC t.status = statusQC s.status :=
  execute_statusQC h fun m _ => statusQC_statusAfter_of_sat (hx m) m s.status

/-- Lanes of which none saturates give no indicator. -/
theorem laneEffects_sat {w : Nat} {f : Nat → Int × Bool} (hf : ∀ e, (f e).2 = false) : (laneEffects w f).sat = 0 := by
  apply BitVec.eq_of_getLsbD_eq
  intro b _
  simp [laneEffects, getLsbD_laneBits, hf]

/-- A lane-local operation whose lane function never saturates leaves QC as it was. -/
theorem leavesQC_laneOp {i : Instr} {f : Nat → Bool → Int → Int → Int × Bool} {w : Width} {u : Bool} {d n : QReg}
    {src : Operand2} (hop : ∀ s, exec i s = laneOp f w u d n src s) (hf : ∀ w u a b, (f w u a b).2 = false) :
    LeavesQC i :=
  fun s _ h => vectorOp_statusQC ((hop s).symm.trans h) fun _ => laneEffects_sat fun _ => hf _ _ _ _

/-- A shift without saturation indicates none. -/
theorem shift_wraps (x sh : Int) (w : Nat) (u round : Bool) : (shift x sh w u round false).2 = false := by
  unfold shift
  split <;> simp

/-- The shifts that wrap leave QC as it was. -/
theorem leavesQC_shiftOp {i : Instr} {round : Bool} {w : Width} {u : Bool} {d n : QReg} {src : Operand2}
    (hop : ∀ s, exec i s = shiftOp round false w u d n src s) : LeavesQC i :=
  fun s _ h => vectorOp_statusQC ((hop s).symm.trans h) fun _ => laneEffects_sat fun _ => shift_wraps _ _ _ _ _

/-- The widening multiplies leave QC as it was: a product fits its output lane. -/
theorem leavesQC_widenMulOp {i : Instr} {half : Nat} {w : Width} {u : Bool} {d n m : QReg}
    (hop : ∀ s, exec i s = widenMulOp half w u d n m s) : LeavesQC i :=
  fun s _ h => vectorOp_statusQC ((hop s).symm.trans h) fun _ => laneEffects_sat fun _ => rfl

/-- A complex rotate-add wraps. -/
theorem rotateAddLane_wraps (by90 : Bool) (a b : Nat → Int) (e : Nat) : (rotateAddLane by90 a b e).2 = false := by
  unfold rotateAddLane
  split <;> rfl

/-- The complex rotate-adds leave QC as it was. -/
theorem leavesQC_rotateAddOp {i : Instr} {by90 : Bool} {w : Width} {d n m : QReg}
    (hop : ∀ s, exec i s = rotateAddOp by90 w d n m s) : LeavesQC i :=
  fun s _ h => vectorOp_statusQC ((hop s).symm.trans h) fun _ => laneEffects_sat fun _ => rotateAddLane_wraps _ _ _ _

/-- The bitwise operations leave QC as it was. -/
theorem leavesQC_bitwiseOp {i : Instr} {f : QWord → QWord → QWord} {d n m : QReg}
    (hop : ∀ s, exec i s = bitwiseOp f d n m s) : LeavesQC i :=
  fun s _ h => vectorOp_statusQC ((hop s).symm.trans h) fun _ => rfl

/-- The carry operations write flags, but not QC. -/
theorem leavesQC_carryOp {i : Instr} {cin : State → Bool} {inv : Word} {always : Bool} {d n m : QReg}
    (hop : ∀ s, exec i s = carryOp (cin s) inv always d n m s) : LeavesQC i :=
  fun s _ h => vectorOp_statusQC ((hop s).symm.trans h) fun _ => rfl

/-- The reductions leave STATUS as it was. -/
theorem leavesQC_reduceOp {i : Instr} {value : State → Mask → Int} (hop : ∀ s, exec i s = reduceOp (value s) s) :
    LeavesQC i :=
  fun s _ h => execute_statusQC ((hop s).symm.trans h) fun _ _ => rfl

/-- The loads leave STATUS as it was. -/
theorem leavesQC_loadOp {i : Instr} {w : Width} {ms : MSize} {u : Bool} {d : QReg}
    (hop : ∀ s, exec i s = loadOp w ms u d s) : LeavesQC i :=
  fun s _ h => execute_statusQC ((hop s).symm.trans h) fun m e =>
    congrArg statusQC (loadElements_status_mem w ms u d m e _ s).1

/-- The stores leave STATUS as it was. -/
theorem leavesQC_storeOp {i : Instr} {w : Width} {ms : MSize} {d : QReg} (hop : ∀ s, exec i s = storeOp w ms d s) :
    LeavesQC i :=
  fun s _ h => execute_statusQC ((hop s).symm.trans h) fun m _ => congrArg statusQC (storeElements_status w ms d m _ s)

/-! ## The operation each form is -/

section
variable {d n m : QReg} {i : Instr} {w : Width} {ms : MSize} {x : Nat} {sub u : Bool} {src : Operand2}

/-- Every form of VADD is the lane-local operation of its lane function (42_arith.md R151). -/
theorem exec_vaddForms (hf : (i, w, u, src) ∈ vaddForms d n m) (s : State) :
    exec i s = laneOp addLane w u d n src s := by
  fin_cases hf <;> rfl

/-- Every form of VSUB is the lane-local operation of its lane function (42_arith.md R152). -/
theorem exec_vsubForms (hf : (i, w, u, src) ∈ vsubForms d n m) (s : State) :
    exec i s = laneOp subLane w u d n src s := by
  fin_cases hf <;> rfl

/-- Every form of VMUL is the lane-local operation of its lane function (42_arith.md R153). -/
theorem exec_vmulForms (hf : (i, w, u, src) ∈ vmulForms d n m) (s : State) :
    exec i s = laneOp mulLane w u d n src s := by
  fin_cases hf <;> rfl

/-- Every form of VMAX is the lane-local operation of its lane function (42_arith.md R154). -/
theorem exec_vmaxForms (hf : (i, w, u, src) ∈ vmaxForms d n m) (s : State) :
    exec i s = laneOp maxLane w u d n src s := by
  fin_cases hf <;> rfl

/-- Every form of VMIN is the lane-local operation of its lane function (42_arith.md R155). -/
theorem exec_vminForms (hf : (i, w, u, src) ∈ vminForms d n m) (s : State) :
    exec i s = laneOp minLane w u d n src s := by
  fin_cases hf <;> rfl

/-- Every form of VABD is the lane-local operation of its lane function (42_arith.md R156). -/
theorem exec_vabdForms (hf : (i, w, u, src) ∈ vabdForms d n m) (s : State) :
    exec i s = laneOp absDiffLane w u d n src s := by
  fin_cases hf <;> rfl

/-- Every form of VHADD is the lane-local operation of its lane function (42_arith.md R157). -/
theorem exec_vhaddForms (hf : (i, w, u, src) ∈ vhaddForms d n m) (s : State) :
    exec i s = laneOp halvingAddLane w u d n src s := by
  fin_cases hf <;> rfl

/-- Every form of VHSUB is the lane-local operation of its lane function (42_arith.md R158). -/
theorem exec_vhsubForms (hf : (i, w, u, src) ∈ vhsubForms d n m) (s : State) :
    exec i s = laneOp halvingSubLane w u d n src s := by
  fin_cases hf <;> rfl

/-- Every form of VSHL is a shift that does not saturate (43_shift_mul.md R171). -/
theorem exec_vshlForms (hf : (i, w, u, src) ∈ vshlForms d n m) (s : State) :
    exec i s = shiftOp false false w u d n src s := by
  fin_cases hf <;> rfl

/-- Every form of VRSHL is a shift that does not saturate (43_shift_mul.md R172). -/
theorem exec_vrshlForms (hf : (i, w, u, src) ∈ vrshlForms d n m) (s : State) :
    exec i s = shiftOp true false w u d n src s := by
  fin_cases hf <;> rfl

/-- Every form of VMULLB is a widening multiply (43_shift_mul.md R175). -/
theorem exec_vmullbForms (hf : (i, w, u, src) ∈ vmullbForms d n m) (s : State) :
    exec i s = widenMulOp 0 w u d n m s := by
  fin_cases hf <;> rfl

/-- Every form of VMULLT is a widening multiply (43_shift_mul.md R175). -/
theorem exec_vmulltForms (hf : (i, w, u, src) ∈ vmulltForms d n m) (s : State) :
    exec i s = widenMulOp 1 w u d n m s := by
  fin_cases hf <;> rfl

/-- Every form of VCADD by 90 degrees is a complex rotate-add (44_pair_carry.md R191). -/
theorem exec_vcadd90Forms (hf : (i, w, u, src) ∈ vcadd90Forms d n m) (s : State) :
    exec i s = rotateAddOp true w d n m s := by
  fin_cases hf <;> rfl

/-- Every form of VCADD by 270 degrees is a complex rotate-add (44_pair_carry.md R192). -/
theorem exec_vcadd270Forms (hf : (i, w, u, src) ∈ vcadd270Forms d n m) (s : State) :
    exec i s = rotateAddOp false w d n m s := by
  fin_cases hf <;> rfl

/-- Every form of VMLADAV, VMLADAVX, VMLSDAV and VMLSDAVX is a dual accumulate (45_reduction.md R212 to R215). -/
theorem exec_dualAccForms (hf : (i, w, x, sub, u) ∈ dualAccForms n m) (s : State) :
    exec i s = dualAccOp x sub w u n m s := by
  fin_cases hf <;> rfl

/-- Every form of VRMLALDAVH, VRMLALDAVHX, VRMLSLDAVH and VRMLSLDAVHX is a rounding dual accumulate
(45_reduction.md R217 to R220). -/
theorem exec_roundDualForms (hf : (i, x, sub, u) ∈ roundDualForms n m) (s : State) :
    exec i s = roundDualAccOp x sub u n m s := by
  fin_cases hf <;> rfl

/-- Every form of VADDV is a sum of lanes (45_reduction.md R221). -/
theorem exec_vaddvForms (hf : (i, w, u) ∈ vaddvForms m) (s : State) :
    exec i s = sumOp w u m s := by
  fin_cases hf <;> rfl

/-- Every form of VLDR is a load (46_memory_access.md R233). -/
theorem exec_loadForms (hf : (i, w, ms, u) ∈ loadForms d) (s : State) :
    exec i s = loadOp w ms u d s := by
  fin_cases hf <;> rfl

/-- Every form of VSTR is a store (46_memory_access.md R234). -/
theorem exec_storeForms (hf : (i, w, ms) ∈ storeForms d) (s : State) :
    exec i s = storeOp w ms d s := by
  fin_cases hf <;> rfl

end

/-- Every form of the families that work lane by lane without saturating leaves QC as it was. -/
theorem leavesQC_laneForms {d n m : QReg} {i : Instr}
    (hi : i ∈ (vaddForms d n m ++ vsubForms d n m ++ vmulForms d n m ++ vmaxForms d n m ++ vminForms d n m ++
      vabdForms d n m ++ vhaddForms d n m ++ vhsubForms d n m ++ vshlForms d n m ++ vrshlForms d n m ++
      vmullbForms d n m ++ vmulltForms d n m ++ vcadd90Forms d n m ++ vcadd270Forms d n m).map Prod.fst) :
    LeavesQC i := by
  obtain ⟨⟨i, w, u, src⟩, hf, rfl⟩ := List.mem_map.mp hi
  simp only [List.mem_append] at hf
  rcases hf with ((((((((((((hf | hf) | hf) | hf) | hf) | hf) | hf) | hf) | hf) | hf) | hf) | hf) | hf) | hf
  · exact leavesQC_laneOp (exec_vaddForms hf) fun _ _ _ _ => rfl
  · exact leavesQC_laneOp (exec_vsubForms hf) fun _ _ _ _ => rfl
  · exact leavesQC_laneOp (exec_vmulForms hf) fun _ _ _ _ => rfl
  · exact leavesQC_laneOp (exec_vmaxForms hf) fun _ _ _ _ => rfl
  · exact leavesQC_laneOp (exec_vminForms hf) fun _ _ _ _ => rfl
  · exact leavesQC_laneOp (exec_vabdForms hf) fun _ _ _ _ => rfl
  · exact leavesQC_laneOp (exec_vhaddForms hf) fun _ _ _ _ => rfl
  · exact leavesQC_laneOp (exec_vhsubForms hf) fun _ _ _ _ => rfl
  · exact leavesQC_shiftOp (exec_vshlForms hf)
  · exact leavesQC_shiftOp (exec_vrshlForms hf)
  · exact leavesQC_widenMulOp (exec_vmullbForms hf)
  · exact leavesQC_widenMulOp (exec_vmulltForms hf)
  · exact leavesQC_rotateAddOp (exec_vcadd90Forms hf)
  · exact leavesQC_rotateAddOp (exec_vcadd270Forms hf)

/-- Every carry operation leaves QC as it was. -/
theorem leavesQC_carryFamily {d n m : QReg} {i : Instr} (hi : i ∈ carryFamily d n m) : LeavesQC i := by
  simp only [carryFamily, List.mem_cons, List.not_mem_nil, or_false] at hi
  rcases hi with rfl | rfl | rfl | rfl
  · exact leavesQC_carryOp (cin := fun s => statusC s.status) fun _ => rfl
  · exact leavesQC_carryOp (cin := fun _ => false) fun _ => rfl
  · exact leavesQC_carryOp (cin := fun s => statusC s.status) fun _ => rfl
  · exact leavesQC_carryOp (cin := fun _ => true) fun _ => rfl

/-- Every bitwise operation leaves QC as it was. -/
theorem leavesQC_bitwise {d n m : QReg} {i : Instr}
    (hi : i ∈ [.vand d n m, .vbic d n m, .vorr d n m, .vorn d n m, .veor d n m]) : LeavesQC i := by
  simp only [List.mem_cons, List.not_mem_nil, or_false] at hi
  rcases hi with rfl | rfl | rfl | rfl | rfl
  · exact leavesQC_bitwiseOp (f := fun x y => x &&& y) fun _ => rfl
  · exact leavesQC_bitwiseOp (f := fun x y => x &&& ~~~y) fun _ => rfl
  · exact leavesQC_bitwiseOp (f := fun x y => x ||| y) fun _ => rfl
  · exact leavesQC_bitwiseOp (f := fun x y => x ||| ~~~y) fun _ => rfl
  · exact leavesQC_bitwiseOp (f := fun x y => x ^^^ y) fun _ => rfl

/-- Settles O13: a step by its cases; the operations that do not saturate by the shared operation each one is. -/
theorem saturationFlagIsSticky : Obligations.SaturationFlagIsSticky := by
  refine ⟨fun s t => step_keeps_qc, fun d n m s t i hi => ?_⟩
  suffices hkeep : LeavesQC i from hkeep s t
  rcases hi with hi | hi | hi | hi | hi | hi | hi | hi
  · exact leavesQC_carryFamily hi
  · exact leavesQC_laneForms hi
  · obtain ⟨⟨i, w, x, sub, u⟩, hf, rfl⟩ := List.mem_map.mp hi
    exact leavesQC_reduceOp (exec_dualAccForms hf)
  · obtain ⟨⟨i, x, sub, u⟩, hf, rfl⟩ := List.mem_map.mp hi
    exact leavesQC_reduceOp (exec_roundDualForms hf)
  · obtain ⟨⟨i, w, u⟩, hf, rfl⟩ := List.mem_map.mp hi
    exact leavesQC_reduceOp (exec_vaddvForms hf)
  · obtain ⟨⟨i, w, ms, u⟩, hf, rfl⟩ := List.mem_map.mp hi
    exact leavesQC_loadOp (exec_loadForms hf)
  · obtain ⟨⟨i, w, ms⟩, hf, rfl⟩ := List.mem_map.mp hi
    exact leavesQC_storeOp (exec_storeForms hf)
  · exact leavesQC_bitwise hi

/-! ## A reserved ECI -/

/-- A vector operation that meets a reserved ECI has no effect but the violation. -/
theorem vectorOp_reserved {s : State} (hr : EciReserved s.eci) (d : QReg) (effects : Mask → Effects) :
    vectorOp d effects s = .next (s.halt.finish .icv none) :=
  execute_reserved hr _

/-- Every operation but MSR and MRS, started with a reserved ECI, raises InternalConsistencyViolation and nothing else
(60_exceptions.md R252). -/
theorem exec_reserved {i : Instr} {s : State} (hi : i ∉ stateAccess) (hr : EciReserved s.eci) :
    exec i s = .next (s.halt.finish .icv none) := by
  cases exec_shape s i with
  | vector d effects hop => exact hop.trans (vectorOp_reserved hr _ _)
  | carry cin inv always d n m hop => exact hop.trans (vectorOp_reserved hr _ _)
  | reduce value hop => exact hop.trans (execute_reserved hr _)
  | load w ms u d hop => exact hop.trans (execute_reserved hr _)
  | store w ms d hop => exact hop.trans (execute_reserved hr _)
  | write r hop hmsr => exact absurd (List.mem_append_left _ (List.mem_map_of_mem hmsr)) hi
  | read r hop hmrs => exact absurd (List.mem_append_right _ (List.mem_map_of_mem hmrs)) hi

/-- Settles O20: the violation, and MSR ECI and MRS ECI, which make no check. -/
theorem reservedEciRaisesConsistencyViolation : Obligations.ReservedEciRaisesConsistencyViolation := by
  refine ⟨fun i s hi hr => ⟨exec_reserved hi hr, fun tx rest u h => ?_⟩, fun s _ => rfl, fun s _ => rfl⟩
  rw [step_transaction_halted rfl rfl] at h
  cases h

/-! ## The mask of a block of conditional operations -/

/-- With both mask fields set the predicate mask is P0 (40_predication.md R111). -/
theorem predicateMask_of_masks {v : Word} (h01 : vprMask01 v ≠ 0) (h23 : vprMask23 v ≠ 0) :
    predicateMask v = vprP0 v := by
  rw [predicateMask, if_neg h01, if_neg h23, BitVec.or_zero, BitVec.or_zero]

/-- Inactive tail predication masks no byte (40_predication.md R112). -/
theorem tailMask_of_inactive {s : State} (h : TailInactive s) : tailMask s.loopcount s.ltpsize = 0xFFFF#16 := by
  refine if_neg ?_
  rw [Nat.shiftRight_eq_div_pow]
  omega

/-- With every byte executed, both mask fields set and no tail predication, the mask is P0. -/
theorem resolve_of_masks {s : State} (htail : TailInactive s) (h01 : vprMask01 s.vpr ≠ 0)
    (h23 : vprMask23 s.vpr ≠ 0) : s.resolve 0xFFFF#16 = vprP0 s.vpr := by
  have hall : ∀ x : Mask, x &&& 0xFFFF#16 = x := fun x => BitVec.and_allOnes
  rw [State.resolve, predicateMask_of_masks h01 h23, tailMask_of_inactive htail, hall, hall]

/-- A mask field above 8 is set, and is still set after the Advancer's shift (40_predication.md R127). -/
theorem mask_set_of_gt {x : BitVec 4} (h : 8 < x.toNat) : x ≠ 0 ∧ x <<< 1 ≠ 0 := by
  revert x
  decide

/-- With both mask fields above 8 and every byte executed, the Advancer inverts P0 and shifts both fields
(40_predication.md R121). -/
theorem advanceVpr_of_gt {gating : Bool} {v : Word} (h01 : 8 < (vprMask01 v).toNat) (h23 : 8 < (vprMask23 v).toNat) :
    advanceVpr gating 0xFFFF#16 v = vprOf (~~~vprP0 v) (vprMask01 v <<< 1) (vprMask23 v <<< 1) := by
  have hinv : inversion gating 0xFFFF#16 (vprMask01 v) (vprMask23 v) = BitVec.allOnes 16 := by
    rw [inversion, if_neg (Nat.not_le.mpr h01), if_neg (Nat.not_le.mpr h23)]
    cases gating <;> rfl
  have hshift : (!gating || (0xFFFF#16 &&& 0x00F0#16) != 0) = true := by cases gating <;> rfl
  rw [advanceVpr, if_neg fun h => (mask_set_of_gt h01).1 h.1, hinv, if_pos hshift, BitVec.xor_allOnes]

/-- A vector operation that completes ran the Advancer with its execute mask, and changed neither LOOPCOUNT nor LTPSIZE
(40_predication.md R120, R126). -/
theorem exec_done {i : Instr} {s t : State} (hi : i ∉ stateAccess) (h : exec i s = .next t)
    (hdone : t.outcome = some .done) :
    ∃ e, eciExecMask s.eci = some e ∧ Advances s t e ∧ t.loopcount = s.loopcount ∧ t.ltpsize = s.ltpsize := by
  cases execCase_of_exec h with
  | msr r hmsr ht => exact absurd (List.mem_append_left _ (List.mem_map_of_mem hmsr)) hi
  | mrs r hmrs ht => exact absurd (List.mem_append_right _ (List.mem_map_of_mem hmrs)) hi
  | icv hr ht =>
    subst ht
    cases hdone
  | completed u e res he hu ht =>
    obtain ⟨⟨hloop, hltp, -, -, -, hcfg, -⟩, hvpr, heci⟩ := hu
    subst ht
    refine ⟨e, he, ⟨?_, ?_⟩, hloop, hltp⟩
    · rw [State.finish_eci, State.advance_eci, heci]
    · rw [State.finish_vpr, State.advance_vpr, hcfg, hvpr]
  | aborted u info hu ht =>
    subst ht
    cases hdone

/-- Settles O21: both masks are P0, which the Advancer inverts. -/
theorem thenElseMasksAreComplementary : Obligations.ThenElseMasksAreComplementary := by
  intro i s t hi hnone htail h01 h23 h hdone
  obtain ⟨e, he, ⟨heci, hvpr⟩, hloop, hltp⟩ := exec_done hi h hdone
  rw [hnone] at he heci
  cases he
  rw [advanceVpr_of_gt h01 h23] at hvpr
  obtain ⟨hp0, hm01, hm23, -⟩ := vprOf_fields (~~~vprP0 s.vpr) (vprMask01 s.vpr <<< 1) (vprMask23 s.vpr <<< 1)
  rw [← hvpr] at hp0 hm01 hm23
  obtain ⟨hset01, hnext01⟩ := mask_set_of_gt h01
  obtain ⟨hset23, hnext23⟩ := mask_set_of_gt h23
  have htail' : TailInactive t := by rwa [TailInactive, hloop, hltp]
  refine ⟨by rw [heci]; rfl, ?_⟩
  rw [resolve_of_masks htail' (hm01 ▸ hnext01) (hm23 ▸ hnext23), resolve_of_masks htail hset01 hset23, hp0]

/-! ## Transactions and reset -/

/-- A descriptor that decodes to an operation naming only registers the machine has runs (30_encoding.md R84). -/
theorem decodeFor_of_decode {nq : Nat} {w : Word} {i : Instr} (hdec : decode w = .ok i)
    (hwf : i.wellFormed nq = true) : decodeFor nq w = .ok i := by
  simp [decodeFor, hdec, hwf]

/-- Settles O5. -/
theorem stepRunsTheDecodedOperation : Obligations.StepRunsTheDecodedOperation := by
  intro s tx rest i hin hrun hdec hwf
  rw [step_of_inputs hin]
  show runTransaction tx (s.withInputs rest) = exec i ((s.withInputs rest).present tx)
  simp [runTransaction, hrun, decodeFor_of_decode hdec hwf]

/-- A step that takes a reset event resets the core (70_reset_and_hazards.md R270). -/
theorem step_reset {s : State} {draw : ResetDraw} {rest : List Input} (hin : s.inputs = .reset draw :: rest) :
    step s = .next ((s.withInputs rest).coreReset draw) :=
  step_of_inputs hin

/-- Settles O8. -/
theorem coreResetSetsTheSpecifiedValues : Obligations.CoreResetSetsTheSpecifiedValues := by
  intro s draw rest hin
  obtain ⟨hn, hz, hc, hv, hqc, hlow⟩ := statusOf_flags draw.n draw.z draw.c draw.v draw.qc
  exact ⟨_, step_reset hin, rfl, rfl, rfl, rfl, rfl, rfl, hn, hz, hc, hv, hqc, hlow, rfl, rfl, rfl, rfl, rfl⟩

/-- Settles O9: both mask fields are 0 after reset, and LTPSIZE = 4 makes tail predication inactive. -/
theorem firstOperationAfterResetHasEveryLaneActive : Obligations.FirstOperationAfterResetHasEveryLaneActive := by
  intro s draw rest hin
  refine ⟨_, step_reset hin, rfl, ?_⟩
  have htail : TailInactive ((s.withInputs rest).coreReset draw) := .inl (by decide : 4 ≤ (4#3).toNat)
  have hpred : predicateMask 0#32 = 0xFFFF#16 := by decide
  rw [State.resolve, tailMask_of_inactive htail, State.coreReset_vpr]
  exact congrArg (· &&& 0xFFFF#16 &&& 0xFFFF#16) hpred

/-- Settles O11. -/
theorem resetMeetsTheInvariant : Obligations.ResetMeetsTheInvariant :=
  ⟨reset_mem_wf, by decide, by decide, nofun⟩

end Sys2Proof.Machine
end

section
/-! SUPPORT. The statements of 20_memory.md: the byte order of the memory primitive (R64), the round trip of a store and
a load (R64, R233, R234), and the events of the outside (R61, R71, R276). -/

namespace Sys2Proof.Machine

/-! ## The value of bytes in memory order -/

/-- Byte i, least significant first, weighs 2^(8i). -/
theorem valueOfBytes_map_range (n : Nat) (f : Nat → Byte) :
    valueOfBytes ((List.range n).map f) = ∑ i ∈ Finset.range n, (f i).toNat * 2 ^ (8 * i) := by
  induction n generalizing f with
  | zero => rfl
  | succ n ih =>
    rw [List.range_succ_eq_map, List.map_cons, List.map_map, valueOfBytes, ih, Finset.sum_range_succ', Finset.mul_sum,
      Nat.add_comm]
    congr 1
    · refine Finset.sum_congr rfl fun i _ => ?_
      rw [Function.comp_apply, Nat.mul_succ, Nat.pow_add]
      ring
    · simp

/-- The bytes at offsets 0 to n - 1, read from the last to the first. -/
theorem reverse_map_range (n : Nat) (f : Nat → Byte) :
    ((List.range n).map f).reverse = (List.range n).map fun i => f (n - 1 - i) := by
  refine List.ext_getElem (by simp) fun i _ _ => ?_
  simp [List.getElem_reverse]

/-- Settles O25: under BIG the offsets run from the last byte to the first. -/
theorem memoryPrimitiveByteOrder : Obligations.MemoryPrimitiveByteOrder := by
  intro mem a n
  constructor
  · exact valueOfBytes_map_range n _
  · show valueOfBytes ((List.range n).map fun i => readByte mem (addrPlus a i).toNat).reverse = _
    rw [reverse_map_range, valueOfBytes_map_range, ← Finset.sum_range_reflect]
    refine Finset.sum_congr rfl fun i hi => ?_
    have hlt : i < n := Finset.mem_range.mp hi
    rw [show n - 1 - (n - 1 - i) = i by omega]
    rfl

/-- A value whose bytes memory holds in the order of MEM_ENDIAN is read back (20_memory.md R64). -/
theorem readValue_of_memoryByte {endian : Endian} {mem : List Host.Cell} {a : Word} {n v : Nat} (hn : n ≤ 2 ^ 32)
    (h : ∀ i, i < n → readByte mem (addrPlus a i).toNat = memoryByte endian n v i) :
    readValue endian mem a n = v % 2 ^ (8 * n) := by
  have hempty : memWf [] = true := rfl
  rw [← readValue_writeValue endian a n v hempty hn]
  exact readValue_congr endian a n fun i hi => by rw [h i hi, readByte_writeValue_inside endian a n v i hempty hn hi]

/-! ## A load and a store no request of which faults -/

/-- With no faulting active element a load completes: only Q[d] and the requests differ before the Advancer, and every
lane is the loaded value (46_memory_access.md R233). -/
theorem loadOp_completes {s : State} {e : Mask} (he : eciExecMask s.eci = some e) (w : Width) (ms : MSize) (u : Bool)
    (d : QReg)
    (hfault : ∀ k, k < lanes w.bits → active (s.resolve e) k w.bits = true → s.elementFault ms .read k = none) :
    ∃ t, loadOp w ms u d s = .next ((t.advance e).finish .done none) ∧
      LoadProgress s t d (loadRequests s (s.resolve e) w ms (lanes w.bits)) ∧
      ∀ k, k < lanes w.bits → elem t.q[d] k w.bits = loadedValue s d (s.resolve e) e w ms u k := by
  have hloop := loadElements_spec (w := w) (ms := ms) (u := u) (d := d) (m := s.resolve e) (e := e)
    (fun _ => active_of_resolve) (List.range (lanes w.bits)) s List.nodup_range fun j => List.mem_range.mp
  rw [loadOp, execute_legal he]
  cases hb : loadElements w ms u d (s.resolve e) e (List.range (lanes w.bits)) s with
  | completed t res =>
    rw [hb] at hloop
    obtain ⟨rfl, hprog, -, hlanes⟩ := hloop
    exact ⟨t, rfl, hprog, fun k hk => by rw [hlanes k hk, if_pos (List.mem_range.mpr hk)]⟩
  | aborted t info =>
    rw [hb] at hloop
    obtain ⟨pre, k, post, cause, hsplit, hactive, hk, -⟩ := hloop
    have hlt : k < lanes w.bits := List.mem_range.mp (hsplit ▸ List.mem_append_right pre List.mem_cons_self)
    rw [hfault k hlt hactive] at hk
    cases hk

/-- With memory in its canonical form and no faulting active element a store completes: only memory and the requests
differ before the Advancer, and memory holds the active elements (46_memory_access.md R234). -/
theorem storeOp_completes {s : State} {e : Mask} (he : eciExecMask s.eci = some e) (hwf : memWf s.mem = true)
    (w : Width) (ms : MSize) (d : QReg)
    (hfault : ∀ k, k < lanes w.bits → active (s.resolve e) k w.bits = true → s.elementFault ms .write k = none) :
    ∃ mem, storeOp w ms d s = .next
        ((({ s with mem := mem, requests := s.requests ++ storeRequests s d (s.resolve e) w ms (lanes w.bits) } :
          State).advance e).finish .done none) ∧
      StoredElements s mem d (s.resolve e) w ms (List.range (lanes w.bits)) := by
  have hloop := storeElements_spec (w := w) (ms := ms) (d := d) (m := s.resolve e) (List.range (lanes w.bits)) s hwf
    List.nodup_range fun j => List.mem_range.mp
  rw [storeOp, execute_legal he]
  cases hb : storeElements w ms d (s.resolve e) (List.range (lanes w.bits)) s with
  | completed t res =>
    rw [hb] at hloop
    obtain ⟨rfl, -, mem, rfl, hmem⟩ := hloop
    exact ⟨mem, rfl, hmem⟩
  | aborted t info =>
    rw [hb] at hloop
    obtain ⟨pre, k, post, cause, hsplit, hactive, hk, -⟩ := hloop
    have hlt : k < lanes w.bits := List.mem_range.mp (hsplit ▸ List.mem_append_right pre List.mem_cons_self)
    rw [hfault k hlt hactive] at hk
    cases hk

/-- An empty oracle faults no request (20_memory.md R61). -/
theorem elementFault_of_no_faults {s : State} (h : s.memFaults = []) (ms : MSize) (dir : Dir) (k : Nat) :
    s.elementFault ms dir k = none := by
  rw [State.elementFault, h]
  rfl

/-! ## With every byte active -/

/-- ECI = NONE executes every byte (40_predication.md R113). -/
theorem eciExecMask_of_zero {eci : BitVec 3} (h : eci = 0#3) : eciExecMask eci = some 0xFFFF#16 := by
  rw [h]
  rfl

/-- With both mask fields 0, no tail predication and every byte executed, every byte is active (40_predication.md R110
to R112). -/
theorem resolve_of_unpredicated {s : State} (htail : TailInactive s) (h01 : vprMask01 s.vpr = 0)
    (h23 : vprMask23 s.vpr = 0) : s.resolve 0xFFFF#16 = 0xFFFF#16 := by
  have hall : ∀ p : Mask, p ||| 0x00FF#16 ||| 0xFF00#16 = 0xFFFF#16 := by
    intro p
    rw [BitVec.or_assoc]
    exact BitVec.or_allOnes
  rw [State.resolve, predicateMask, if_pos h01, if_pos h23, hall, tailMask_of_inactive htail]
  rfl

/-- With both mask fields 0 the Advancer leaves VPR as it is (40_predication.md R121). -/
theorem advanceVpr_of_unpredicated {gating : Bool} {e : Mask} {v : Word} (h01 : vprMask01 v = 0)
    (h23 : vprMask23 v = 0) : advanceVpr gating e v = v :=
  if_pos ⟨h01, h23⟩

/-- Every bit of the full mask is set. -/
theorem getLsbD_fullMask {b : Nat} (h : b < 16) : (0xFFFF#16 : Mask).getLsbD b = true :=
  (BitVec.getLsbD_allOnes (v := 16)).trans (decide_eq_true h)

/-- Every lane is active under the full mask. -/
theorem active_fullMask {w : Width} {k : Nat} (h : k < lanes w.bits) : active 0xFFFF#16 k w.bits = true :=
  getLsbD_fullMask (lowest_byte_lt h)

/-- Under the full mask a merged lane is the new one. -/
theorem mergeLane_fullMask {w : Width} {k : Nat} (h : k < lanes w.bits) (old new : BitVec w.bits) :
    mergeLane 0xFFFF#16 k w.bits old new = new := by
  refine BitVec.eq_of_getLsbD_eq fun j hj => ?_
  have hbyte : k * (w.bits / 8) + j / 8 < 16 := by
    have hfits := lane_fits h
    cases w <;> simp only [Width.bits] at hfits hj ⊢ <;> omega
  rw [getLsbD_mergeLane w.bits_mod _ _ _ _ _ hj, if_pos (getLsbD_fullMask hbyte)]

/-- Under the full masks a loaded lane is its memory element, with either load parameter (46_memory_access.md R233). -/
theorem loadedValue_fullMask (s : State) (d : QReg) {w : Width} (ms : MSize) (u : Bool) {k : Nat}
    (h : k < lanes w.bits) :
    loadedValue s d 0xFFFF#16 0xFFFF#16 w ms u k = extendElement u ms w.bits (s.elementValue ms k) := by
  have hactive := active_fullMask h
  rw [loadedValue, if_neg (by simp [hactive]), if_pos hactive]
  cases s.cfg.loadInactive with
  | preserve => exact mergeLane_fullMask h _ _
  | zero => rfl

/-- An access from this state is whole: every byte is executed and active, and no request faults. -/
def WholeAccess (s : State) : Prop :=
  s.eci = 0#3 ∧ TailInactive s ∧ vprMask01 s.vpr = 0 ∧ vprMask23 s.vpr = 0 ∧ s.memFaults = []

/-- A whole store puts every lane in memory, and the access after it is whole again: the Advancer leaves VPR and ECI as
they were. -/
theorem storeOp_whole {s : State} (h : WholeAccess s) (hwf : memWf s.mem = true) (w : Width) (ms : MSize) (d : QReg) :
    ∃ t, storeOp w ms d s = .next t ∧ WholeAccess t ∧ t.ports = s.ports ∧ t.cfg = s.cfg ∧
      StoredElements s t.mem d 0xFFFF#16 w ms (List.range (lanes w.bits)) := by
  obtain ⟨heci, htail, h01, h23, hnofault⟩ := h
  obtain ⟨mem, hrun, hmem⟩ := storeOp_completes (eciExecMask_of_zero heci) hwf w ms d
    fun k _ _ => elementFault_of_no_faults hnofault ms .write k
  rw [resolve_of_unpredicated htail h01 h23] at hmem
  refine ⟨_, hrun, ⟨?_, htail, ?_, ?_, hnofault⟩, rfl, rfl, hmem⟩
  · simp [heci]
  · simpa [advanceVpr_of_unpredicated h01 h23] using h01
  · simpa [advanceVpr_of_unpredicated h01 h23] using h23

/-- A whole load takes every lane from memory. -/
theorem loadOp_whole {s : State} (h : WholeAccess s) (w : Width) (ms : MSize) (u : Bool) (d : QReg) :
    ∃ t, loadOp w ms u d s = .next t ∧
      ∀ k, k < lanes w.bits → elem t.q[d] k w.bits = extendElement u ms w.bits (s.elementValue ms k) := by
  obtain ⟨heci, htail, h01, h23, hnofault⟩ := h
  obtain ⟨t, hrun, -, hlanes⟩ := loadOp_completes (eciExecMask_of_zero heci) w ms u d
    fun k _ _ => elementFault_of_no_faults hnofault ms .read k
  rw [resolve_of_unpredicated htail h01 h23] at hlanes
  exact ⟨_, hrun, fun k hk => (hlanes k hk).trans (loadedValue_fullMask s d ms u hk)⟩

/-! ## A store and the load of the same size -/

/-- An element as wide as its lane is extended by nothing. -/
theorem extendElement_same_size (u : Bool) {ms : MSize} {w : Nat} (h : 8 * ms.bytes = w) (x : BitVec w) :
    extendElement u ms w (x.toNat % 2 ^ (8 * ms.bytes)) = x := by
  subst h
  rw [Nat.mod_eq_of_lt x.isLt, extendElement, BitVec.ofNat_toNat, BitVec.setWidth_eq, BitVec.signExtend_eq, ite_self]

/-- The pairs of a store and the load of the same element size and lane width. -/
theorem sameSize_forms {d d' : QReg} {store load : Instr}
    (h : (store, load) ∈ ([(.vstrb8 d, .vldrb8 d'), (.vstrh16 d, .vldrh16 d'), (.vstrw32 d, .vldrw32 d')] :
      List (Instr × Instr))) :
    ∃ w ms, 8 * ms.bytes = w.bits ∧ (store, w, ms) ∈ storeForms d ∧ (load, w, ms, false) ∈ loadForms d' := by
  fin_cases h
  · exact ⟨.w8, .byte, rfl, by simp [storeForms], by simp [loadForms]⟩
  · exact ⟨.w16, .half, rfl, by simp [storeForms], by simp [loadForms]⟩
  · exact ⟨.w32, .word, rfl, by simp [storeForms], by simp [loadForms]⟩

/-- Memory that holds the elements of Q[d], stored from s, gives each of them back at its address. -/
theorem elementValue_of_stored {s t : State} {d : QReg} {m : Mask} {w : Width} {ms : MSize} {es : List Nat}
    (hmem : StoredElements s t.mem d m w ms es) (hports : t.ports = s.ports) (hcfg : t.cfg = s.cfg) {k : Nat}
    (hk : k ∈ es) (hactive : active m k w.bits = true) : t.elementValue ms k = s.storedValue w ms d k := by
  obtain ⟨-, hbytes, -⟩ := hmem
  have hread := readValue_of_memoryByte (by cases ms <;> decide) (hbytes k hk hactive)
  rw [State.elementValue, State.elementAddress, hports, hcfg]
  exact hread.trans (Nat.mod_mod _ _)

/-- Settles O48: the store puts every lane of Q[d] in memory and leaves every byte active, and the load takes each lane
of Q[d'] from there. -/
theorem loadReturnsTheStoredRegister : Obligations.LoadReturnsTheStoredRegister := by
  intro s d d' store load hpair hwf heci htail h01 h23 hnofault
  obtain ⟨w, ms, hsize, hstore, hload⟩ := sameSize_forms hpair
  obtain ⟨t, hrun, ht, hports, hcfg, hmem⟩ := storeOp_whole ⟨heci, htail, h01, h23, hnofault⟩ hwf w ms d
  obtain ⟨u, hrun', hlanes⟩ := loadOp_whole ht w ms false d'
  refine ⟨t, u, (exec_storeForms hstore s).trans hrun, (exec_loadForms hload t).trans hrun', ?_⟩
  refine eq_of_elems (w := w.bits) (by cases w <;> simp [Width.bits]) fun k hk => ?_
  calc elem u.q[d'] k w.bits
      = extendElement false ms w.bits (t.elementValue ms k) := hlanes k hk
    _ = extendElement false ms w.bits (s.storedValue w ms d k) := by
        rw [elementValue_of_stored hmem hports hcfg (List.mem_range.mpr hk) (active_fullMask hk)]
    _ = elem s.q[d] k w.bits := extendElement_same_size false hsize _

/-! ## The events of the outside -/

/-- A step that takes a direct register write (70_reset_and_hazards.md R276). -/
theorem step_writeQ {s : State} {r : QReg} {v : QWord} {rest : List Input} (hin : s.inputs = .writeQ r v :: rest) :
    step s = .next (writeDirect r v (s.withInputs rest)) :=
  step_of_inputs hin

/-- A step that takes a store of another agent (20_memory.md R71). -/
theorem step_writeMem {s : State} {a : Word} {b : Byte} {rest : List Input} (hin : s.inputs = .writeMem a b :: rest) :
    step s = .next (storeFromOutside a b (s.withInputs rest)) :=
  step_of_inputs hin

/-- A step that takes a change of the fault oracle (20_memory.md R61). -/
theorem step_setFaults {s : State} {faults : List FaultEntry} {rest : List Input}
    (hin : s.inputs = .setFaults faults :: rest) : step s = .next (changeFaults faults (s.withInputs rest)) :=
  step_of_inputs hin

/-- Settles O10: the direct write splits on whether the machine has the register. -/
theorem outsideEventsActBetweenTransactions : Obligations.OutsideEventsActBetweenTransactions := by
  refine ⟨fun s => step_of_idle, ?_, ?_, fun s faults rest hin => step_setFaults hin⟩
  · intro s r v rest hin
    rw [step_writeQ hin]
    exact ⟨fun hr => congrArg _ (if_pos hr), fun hr => congrArg _ (if_neg (Nat.not_lt.mpr hr))⟩
  · exact fun s a b rest hin => ⟨step_writeMem hin, fun hwf x => readByte_writeByte a b x hwf⟩

end Sys2Proof.Machine
end

section
/-! SUPPORT. The legality table read forwards and backwards: each row of the decoder answers an operation whose fields
are the ones it was given exactly when the row of 30_encoding.md R90 allows them, and refuses otherwise. From it, the
statements of 30_encoding.md. -/

namespace Sys2Proof.Machine

/-! ## Decoding under a condition -/

/-- What the decoder answers to the fields f: an operation whose fields are f where p holds, a refusal where it does
not. -/
inductive DecodesWhen (f : Fields) (p : Prop) : Decoded → Prop where
  | ok {i : Instr} (hp : p) (hi : i.fields = f) : DecodesWhen f p (.ok i)
  | error {why : Illegal} (hp : ¬ p) : DecodesWhen f p (.error why)

namespace DecodesWhen

variable {f : Fields} {p q : Prop} {k : Decoded}

theorem fields_eq {i : Instr} (h : DecodesWhen f p k) (hk : k = .ok i) : i.fields = f := by
  subst hk
  cases h with
  | ok _ hi => exact hi

theorem exists_ok_iff (h : DecodesWhen f p k) : (∃ i, k = .ok i) ↔ p := by
  cases h with
  | ok hp _ => simp [hp]
  | error hp => simp [hp]

theorem congr (h : DecodesWhen f p k) (hpq : p ↔ q) : DecodesWhen f q k := propext hpq ▸ h

/-- A check adds what it checks to the condition, and what follows it may use it. -/
theorem require {b : Bool} {why : Illegal} (hb : b = true ↔ q) (h : q → DecodesWhen f p k) :
    DecodesWhen f (q ∧ p) (require b why k) := by
  cases b with
  | false => exact .error fun hqp => by simp [hqp.1] at hb
  | true =>
    have hq : q := hb.mp rfl
    exact (h hq).congr (by simp [hq])

/-- A choice by U decodes under the condition that both of its sides decode under. -/
theorem bySign {signed unsigned : Decoded} (hs : f.u = false → DecodesWhen f p signed)
    (hu : f.u = true → DecodesWhen f p unsigned) : DecodesWhen f p (bySign f signed unsigned) := by
  unfold Sys2Proof.bySign
  split
  next h => exact hu h
  next h => exact hs (Bool.eq_false_of_not_eq_true h)

/-- A choice by SIZE adds that SIZE is not 3 (30_encoding.md R91). -/
theorem bySize {k8 k16 k32 : Decoded} (h8 : f.size = 0 → DecodesWhen f p k8) (h16 : f.size = 1 → DecodesWhen f p k16)
    (h32 : f.size = 2 → DecodesWhen f p k32) : DecodesWhen f (f.size ≠ 3 ∧ p) (bySize f k8 k16 k32) := by
  unfold Sys2Proof.bySize
  split
  next h => exact (h8 h).congr (by simp [h])
  next h => exact (h16 h).congr (by simp [h])
  next h => exact (h32 h).congr (by simp [h])
  next h0 h1 h2 =>
    have h3 : f.size = 3 := by
      generalize f.size = size at h0 h1 h2
      revert size
      decide
    exact .error fun h => h.1 h3

theorem plainRow (h : f.s = false → f.msize = 0 → DecodesWhen f p k) :
    DecodesWhen f (f.s = false ∧ f.msize = 0 ∧ p) (plainRow f k) :=
  require (iff_of_eq (Bool.not_eq_true' _)) fun hs => require beq_iff_eq fun hmsize => h hs hmsize

theorem signlessRow (h : f.u = false → DecodesWhen f p k) : DecodesWhen f (f.u = false ∧ p) (signlessRow f k) :=
  require (iff_of_eq (Bool.not_eq_true' _)) h

end DecodesWhen

/-! ## The forms of a row -/

/-- The three-vector forms of OP and U that the encoder gives SIZE 0, 1 and 2. -/
def VectorForms (op : BitVec 6) (u : Bool) (k8 k16 k32 : QReg → QReg → QReg → Instr) : Prop :=
  ∀ d n m, (k8 d n m).fields = vectorFields op 0 u d n m ∧ (k16 d n m).fields = vectorFields op 1 u d n m ∧
    (k32 d n m).fields = vectorFields op 2 u d n m

/-- The scalar forms of OP and U that the encoder gives SIZE 0, 1 and 2 (30_encoding.md R85). -/
def ScalarForms (op : BitVec 6) (u : Bool) (k8 k16 k32 : QReg → QReg → Instr) : Prop :=
  ∀ d n, (k8 d n).fields = scalarFields op 0 u d n ∧ (k16 d n).fields = scalarFields op 1 u d n ∧
    (k32 d n).fields = scalarFields op 2 u d n

/-- The reductions of two vectors of OP and U that the encoder gives SIZE 0, 1 and 2: QD = 0. -/
def ReductionForms (op : BitVec 6) (u : Bool) (k8 k16 k32 : QReg → QReg → Instr) : Prop :=
  ∀ n m, (k8 n m).fields = vectorFields op 0 u 0 n m ∧ (k16 n m).fields = vectorFields op 1 u 0 n m ∧
    (k32 n m).fields = vectorFields op 2 u 0 n m

/-- The sums of one vector of OP and U that the encoder gives SIZE 0, 1 and 2: QD = QN = 0. -/
def SumForms (op : BitVec 6) (u : Bool) (k8 k16 k32 : QReg → Instr) : Prop :=
  ∀ m, (k8 m).fields = vectorFields op 0 u 0 0 m ∧ (k16 m).fields = vectorFields op 1 u 0 0 m ∧
    (k32 m).fields = vectorFields op 2 u 0 0 m

section Forms

variable {f : Fields} {op : BitVec 6} {size : BitVec 2} {u : Bool}

/-- Fields with S = 0, MSIZE = 0 and RSV = 0 are those of a vector form. -/
theorem vectorFields_eq (hop : f.op = op) (hsize : f.size = size) (hu : f.u = u) (hs : f.s = false)
    (hmsize : f.msize = 0) (hrsv : f.rsv = 0) :
    vectorFields op size u f.qd.toFin f.qn.toFin f.qm.toFin = f := by
  subst hop hsize hu
  rw [vectorFields, ← hs, ← hmsize, ← hrsv]

/-- Fields with S = 1, QM = 0, MSIZE = 0 and RSV = 0 are those of a scalar form. -/
theorem scalarFields_eq (hop : f.op = op) (hsize : f.size = size) (hu : f.u = u) (hs : f.s = true) (hqm : f.qm = 0)
    (hmsize : f.msize = 0) (hrsv : f.rsv = 0) : scalarFields op size u f.qd.toFin f.qn.toFin = f := by
  subst hop hsize hu
  obtain ⟨op, size, u, qd, qn, qm, s, msize, rsv⟩ := f
  simp_all [scalarFields, vectorFields]

/-- Fields with S = 0, QN = QM = 0 and RSV = 0 are those of a memory form. -/
theorem memoryFields_eq (hop : f.op = op) (hsize : f.size = size) (hu : f.u = u) (hs : f.s = false) (hqn : f.qn = 0)
    (hqm : f.qm = 0) {msize : BitVec 2} (hmsize : f.msize = msize) (hrsv : f.rsv = 0) :
    memoryFields op size u f.qd.toFin msize = f := by
  subst hop hsize hu hmsize
  obtain ⟨op, size, u, qd, qn, qm, s, msize, rsv⟩ := f
  simp_all [memoryFields, vectorFields]

theorem vectorForm_decodes {mk : QReg → QReg → QReg → Instr}
    (hmk : (mk f.qd.toFin f.qn.toFin f.qm.toFin).fields = vectorFields op size u f.qd.toFin f.qn.toFin f.qm.toFin)
    (hop : f.op = op) (hsize : f.size = size) (hu : f.u = u) (hs : f.s = false) (hmsize : f.msize = 0)
    (hrsv : f.rsv = 0) : DecodesWhen f True (vectorForm f mk) :=
  .ok trivial (hmk.trans (vectorFields_eq hop hsize hu hs hmsize hrsv))

/-- The vector form needs nothing of QM, the scalar form QM = 0 (30_encoding.md R85). -/
theorem byOperand_decodes {mk : QReg → QReg → QReg → Instr} {mkScalar : QReg → QReg → Instr}
    (hmk : (mk f.qd.toFin f.qn.toFin f.qm.toFin).fields = vectorFields op size u f.qd.toFin f.qn.toFin f.qm.toFin)
    (hmkScalar : (mkScalar f.qd.toFin f.qn.toFin).fields = scalarFields op size u f.qd.toFin f.qn.toFin)
    (hop : f.op = op) (hsize : f.size = size) (hu : f.u = u) (hmsize : f.msize = 0) (hrsv : f.rsv = 0) :
    DecodesWhen f (f.s = true → f.qm = 0) (byOperand f mk mkScalar) := by
  unfold byOperand
  split
  next hs =>
    have hscalar : f.qm = 0 → DecodesWhen f True (.ok (mkScalar f.qd.toFin f.qn.toFin)) := fun hqm =>
      .ok trivial (hmkScalar.trans (scalarFields_eq hop hsize hu hs hqm hmsize hrsv))
    exact (DecodesWhen.require beq_iff_eq hscalar).congr (by simp [hs])
  next hs =>
    have hs : f.s = false := Bool.eq_false_of_not_eq_true hs
    exact (vectorForm_decodes hmk hop hsize hu hs hmsize hrsv).congr (by simp [hs])

theorem reductionForm_decodes {mk : QReg → QReg → Instr}
    (hmk : (mk f.qn.toFin f.qm.toFin).fields = vectorFields op size u 0 f.qn.toFin f.qm.toFin)
    (hop : f.op = op) (hsize : f.size = size) (hu : f.u = u) (hs : f.s = false) (hmsize : f.msize = 0)
    (hrsv : f.rsv = 0) : DecodesWhen f (f.qd = 0 ∧ True) (reductionForm f mk) := by
  refine .require beq_iff_eq fun hqd => .ok trivial ?_
  have hf := vectorFields_eq hop hsize hu hs hmsize hrsv
  rw [hqd] at hf
  exact hmk.trans hf

theorem vectorForms_decode {k8 k16 k32 : QReg → QReg → QReg → Instr} (hforms : VectorForms op u k8 k16 k32)
    (hop : f.op = op) (hu : f.u = u) (hs : f.s = false) (hmsize : f.msize = 0) (hrsv : f.rsv = 0) :
    DecodesWhen f (f.size ≠ 3 ∧ True) (bySize f (vectorForm f k8) (vectorForm f k16) (vectorForm f k32)) := by
  obtain ⟨h8, h16, h32⟩ := hforms f.qd.toFin f.qn.toFin f.qm.toFin
  exact .bySize (fun hsize => vectorForm_decodes h8 hop hsize hu hs hmsize hrsv)
    (fun hsize => vectorForm_decodes h16 hop hsize hu hs hmsize hrsv)
    (fun hsize => vectorForm_decodes h32 hop hsize hu hs hmsize hrsv)

theorem operandForms_decode {k8 k16 k32 : QReg → QReg → QReg → Instr} {s8 s16 s32 : QReg → QReg → Instr}
    (hforms : VectorForms op u k8 k16 k32) (hscalar : ScalarForms op u s8 s16 s32) (hop : f.op = op) (hu : f.u = u)
    (hmsize : f.msize = 0) (hrsv : f.rsv = 0) :
    DecodesWhen f (f.size ≠ 3 ∧ (f.s = true → f.qm = 0))
      (bySize f (byOperand f k8 s8) (byOperand f k16 s16) (byOperand f k32 s32)) := by
  obtain ⟨h8, h16, h32⟩ := hforms f.qd.toFin f.qn.toFin f.qm.toFin
  obtain ⟨hs8, hs16, hs32⟩ := hscalar f.qd.toFin f.qn.toFin
  exact .bySize (fun hsize => byOperand_decodes h8 hs8 hop hsize hu hmsize hrsv)
    (fun hsize => byOperand_decodes h16 hs16 hop hsize hu hmsize hrsv)
    (fun hsize => byOperand_decodes h32 hs32 hop hsize hu hmsize hrsv)

theorem reductionForms_decode {k8 k16 k32 : QReg → QReg → Instr} (hforms : ReductionForms op u k8 k16 k32)
    (hop : f.op = op) (hu : f.u = u) (hs : f.s = false) (hmsize : f.msize = 0) (hrsv : f.rsv = 0) :
    DecodesWhen f (f.size ≠ 3 ∧ f.qd = 0 ∧ True)
      (bySize f (reductionForm f k8) (reductionForm f k16) (reductionForm f k32)) := by
  obtain ⟨h8, h16, h32⟩ := hforms f.qn.toFin f.qm.toFin
  exact .bySize (fun hsize => reductionForm_decodes h8 hop hsize hu hs hmsize hrsv)
    (fun hsize => reductionForm_decodes h16 hop hsize hu hs hmsize hrsv)
    (fun hsize => reductionForm_decodes h32 hop hsize hu hs hmsize hrsv)

theorem sumForms_decode {k8 k16 k32 : QReg → Instr} (hforms : SumForms op u k8 k16 k32) (hop : f.op = op)
    (hu : f.u = u) (hs : f.s = false) (hmsize : f.msize = 0) (hqd : f.qd = 0) (hqn : f.qn = 0) (hrsv : f.rsv = 0) :
    DecodesWhen f (f.size ≠ 3 ∧ True)
      (bySize f (.ok (k8 f.qm.toFin)) (.ok (k16 f.qm.toFin)) (.ok (k32 f.qm.toFin))) := by
  have hf : ∀ size, f.size = size → vectorFields op size u 0 0 f.qm.toFin = f := by
    intro size hsize
    have h := vectorFields_eq hop hsize hu hs hmsize hrsv
    rwa [hqd, hqn] at h
  obtain ⟨h8, h16, h32⟩ := hforms f.qm.toFin
  exact .bySize (fun hsize => .ok trivial (h8.trans (hf 0 hsize))) (fun hsize => .ok trivial (h16.trans (hf 1 hsize)))
    (fun hsize => .ok trivial (h32.trans (hf 2 hsize)))

end Forms

/-! ## The legality table -/

/-- No two rows have one OP. -/
theorem legalRows_op_nodup : (legalRows.map LegalRow.op).Nodup := by
  simp only [legalRows]; decide

/-- The rows stand below the OPs of VLDR, VSTR, MSR and MRS. -/
theorem legalRows_op_lt : ∀ r ∈ legalRows, r.op < 0x35 := by
  simp only [legalRows]; decide

/-- For an OP of the table, the table's other rows and the memory and state rows allow nothing. -/
theorem legalFields_iff_allows {f : Fields} {r : LegalRow} (hr : r ∈ legalRows) (hop : f.op = r.op) (hrsv : f.rsv = 0) :
    LegalFields f ↔ r.Allows f := by
  have hlt : f.op < 0x35 := hop ▸ legalRows_op_lt r hr
  refine ⟨?_, fun h => ⟨hrsv, .inl ⟨r, hr, h⟩⟩⟩
  rintro ⟨-, ⟨r', hr', h⟩ | ⟨h, -⟩ | ⟨h, -⟩ | ⟨h | h, -⟩⟩
  · rwa [List.inj_on_of_nodup_map legalRows_op_nodup hr hr' (hop.symm.trans h.1)]
  all_goals
    rw [h] at hlt
    exact absurd hlt (by decide)

/-- From VLDR's OP on, no row of the table but those of memory and state access is meant. -/
theorem not_allows_of_op_ge {f : Fields} (hop : 0x35 ≤ f.op) : ¬ ∃ r ∈ legalRows, r.Allows f := by
  rintro ⟨r, hr, h⟩
  exact absurd (h.1 ▸ legalRows_op_lt r hr) (by simpa using hop)

theorem legalFields_iff_load {f : Fields} (hop : f.op = 0x35) (hrsv : f.rsv = 0) : LegalFields f ↔ LoadAllowed f := by
  have hrows : ¬ ∃ r ∈ legalRows, r.Allows f := not_allows_of_op_ge (by rw [hop]; decide)
  rw [LegalFields]
  grind [StoreAllowed, StateAccessAllowed]

theorem legalFields_iff_store {f : Fields} (hop : f.op = 0x36) (hrsv : f.rsv = 0) : LegalFields f ↔ StoreAllowed f := by
  have hrows : ¬ ∃ r ∈ legalRows, r.Allows f := not_allows_of_op_ge (by rw [hop]; decide)
  rw [LegalFields]
  grind [LoadAllowed, StateAccessAllowed]

theorem legalFields_iff_stateAccess {f : Fields} (hop : f.op = 0x38 ∨ f.op = 0x39) (hrsv : f.rsv = 0) :
    LegalFields f ↔ StateAccessAllowed f := by
  have hrows : ¬ ∃ r ∈ legalRows, r.Allows f := not_allows_of_op_ge (by rcases hop with h | h <;> rw [h] <;> decide)
  rw [LegalFields]
  grind [LoadAllowed, StoreAllowed]

/-- A lane width is legal in a row that allows all three exactly when it is not 3. -/
theorem size_mem_iff {size : BitVec 2} : size ∈ ([0, 1, 2] : List (BitVec 2)) ↔ size ≠ 3 := by
  revert size
  decide

/-! ## One lemma per shape of row

Each collects the checks of its row as the condition and compares them with the row of the table, for any operations
that the encoder gives the row's OP. -/

section Rows

variable {f : Fields} {op : BitVec 6}

theorem bitwiseRow_decodes {mk : QReg → QReg → QReg → Instr}
    (hmk : ∀ d n m, (mk d n m).fields = vectorFields op 0 false d n m)
    (hrow : ⟨op, [0], [false], [false], true, true, true⟩ ∈ legalRows) (hop : f.op = op) (hrsv : f.rsv = 0) :
    DecodesWhen f (LegalFields f) (bitwiseRow f mk) := by
  have h : DecodesWhen f _ (bitwiseRow f mk) :=
    .plainRow fun hs hmsize => .signlessRow fun hu => .require beq_iff_eq fun hsize =>
      vectorForm_decodes (hmk _ _ _) hop hsize hu hs hmsize hrsv
  refine h.congr (.trans ?_ (legalFields_iff_allows hrow hop hrsv).symm)
  grind [LegalRow.Allows, size_mem_iff]

theorem vectorRow_decodes {k8 k16 k32 : QReg → QReg → QReg → Instr} (hforms : VectorForms op false k8 k16 k32)
    (hrow : ⟨op, [0, 1, 2], [false], [false], true, true, true⟩ ∈ legalRows) (hop : f.op = op) (hrsv : f.rsv = 0) :
    DecodesWhen f (LegalFields f) (vectorRow f k8 k16 k32) := by
  have h : DecodesWhen f _ (vectorRow f k8 k16 k32) :=
    .plainRow fun hs hmsize => .signlessRow fun hu => vectorForms_decode hforms hop hu hs hmsize hrsv
  refine h.congr (.trans ?_ (legalFields_iff_allows hrow hop hrsv).symm)
  grind [LegalRow.Allows, size_mem_iff]

theorem scalarRow_decodes {k8 k16 k32 : QReg → QReg → QReg → Instr} {s8 s16 s32 : QReg → QReg → Instr}
    (hforms : VectorForms op false k8 k16 k32) (hscalar : ScalarForms op false s8 s16 s32)
    (hrow : ⟨op, [0, 1, 2], [false], [false, true], true, true, true⟩ ∈ legalRows) (hop : f.op = op)
    (hrsv : f.rsv = 0) : DecodesWhen f (LegalFields f) (scalarRow f k8 k16 k32 s8 s16 s32) := by
  have h : DecodesWhen f _ (scalarRow f k8 k16 k32 s8 s16 s32) :=
    .require beq_iff_eq fun hmsize => .signlessRow fun hu => operandForms_decode hforms hscalar hop hu hmsize hrsv
  refine h.congr (.trans ?_ (legalFields_iff_allows hrow hop hrsv).symm)
  grind [LegalRow.Allows, size_mem_iff]

theorem signedRow_decodes {s8 s16 s32 u8 u16 u32 : QReg → QReg → QReg → Instr}
    (hsigned : VectorForms op false s8 s16 s32) (hunsigned : VectorForms op true u8 u16 u32)
    (hrow : ⟨op, [0, 1, 2], [false, true], [false], true, true, true⟩ ∈ legalRows) (hop : f.op = op)
    (hrsv : f.rsv = 0) : DecodesWhen f (LegalFields f) (signedRow f s8 s16 s32 u8 u16 u32) := by
  have h : DecodesWhen f _ (signedRow f s8 s16 s32 u8 u16 u32) :=
    .plainRow fun hs hmsize => .bySign (fun hu => vectorForms_decode hsigned hop hu hs hmsize hrsv)
      fun hu => vectorForms_decode hunsigned hop hu hs hmsize hrsv
  refine h.congr (.trans ?_ (legalFields_iff_allows hrow hop hrsv).symm)
  grind [LegalRow.Allows, size_mem_iff]

theorem signedScalarRow_decodes {s8 s16 s32 u8 u16 u32 : QReg → QReg → QReg → Instr}
    {ss8 ss16 ss32 su8 su16 su32 : QReg → QReg → Instr}
    (hsigned : VectorForms op false s8 s16 s32) (hunsigned : VectorForms op true u8 u16 u32)
    (hsignedScalar : ScalarForms op false ss8 ss16 ss32) (hunsignedScalar : ScalarForms op true su8 su16 su32)
    (hrow : ⟨op, [0, 1, 2], [false, true], [false, true], true, true, true⟩ ∈ legalRows) (hop : f.op = op)
    (hrsv : f.rsv = 0) :
    DecodesWhen f (LegalFields f)
      (signedScalarRow f s8 s16 s32 u8 u16 u32 ss8 ss16 ss32 su8 su16 su32) := by
  have h : DecodesWhen f _ (signedScalarRow f s8 s16 s32 u8 u16 u32 ss8 ss16 ss32 su8 su16 su32) :=
    .require beq_iff_eq fun hmsize =>
      .bySign (fun hu => operandForms_decode hsigned hsignedScalar hop hu hmsize hrsv)
        fun hu => operandForms_decode hunsigned hunsignedScalar hop hu hmsize hrsv
  refine h.congr (.trans ?_ (legalFields_iff_allows hrow hop hrsv).symm)
  grind [LegalRow.Allows, size_mem_iff]

theorem carryRow_decodes {mk : QReg → QReg → QReg → Instr}
    (hmk : ∀ d n m, (mk d n m).fields = vectorFields op 2 false d n m)
    (hrow : ⟨op, [2], [false], [false], true, true, true⟩ ∈ legalRows) (hop : f.op = op) (hrsv : f.rsv = 0) :
    DecodesWhen f (LegalFields f) (carryRow f mk) := by
  have h : DecodesWhen f _ (carryRow f mk) :=
    .plainRow fun hs hmsize => .signlessRow fun hu => .require beq_iff_eq fun hsize =>
      vectorForm_decodes (hmk _ _ _) hop hsize hu hs hmsize hrsv
  refine h.congr (.trans ?_ (legalFields_iff_allows hrow hop hrsv).symm)
  grind [LegalRow.Allows]

theorem dualRow_decodes {k8 k16 k32 : QReg → QReg → Instr} (hforms : ReductionForms op false k8 k16 k32)
    (hrow : ⟨op, [0, 1, 2], [false], [false], false, true, true⟩ ∈ legalRows) (hop : f.op = op) (hrsv : f.rsv = 0) :
    DecodesWhen f (LegalFields f) (dualRow f k8 k16 k32) := by
  have h : DecodesWhen f _ (dualRow f k8 k16 k32) :=
    .plainRow fun hs hmsize => .signlessRow fun hu => reductionForms_decode hforms hop hu hs hmsize hrsv
  refine h.congr (.trans ?_ (legalFields_iff_allows hrow hop hrsv).symm)
  grind [LegalRow.Allows, size_mem_iff]

theorem signedDualRow_decodes {s8 s16 s32 u8 u16 u32 : QReg → QReg → Instr}
    (hsigned : ReductionForms op false s8 s16 s32) (hunsigned : ReductionForms op true u8 u16 u32)
    (hrow : ⟨op, [0, 1, 2], [false, true], [false], false, true, true⟩ ∈ legalRows) (hop : f.op = op)
    (hrsv : f.rsv = 0) : DecodesWhen f (LegalFields f) (signedDualRow f s8 s16 s32 u8 u16 u32) := by
  have h : DecodesWhen f _ (signedDualRow f s8 s16 s32 u8 u16 u32) :=
    .plainRow fun hs hmsize => .bySign (fun hu => reductionForms_decode hsigned hop hu hs hmsize hrsv)
      fun hu => reductionForms_decode hunsigned hop hu hs hmsize hrsv
  refine h.congr (.trans ?_ (legalFields_iff_allows hrow hop hrsv).symm)
  grind [LegalRow.Allows, size_mem_iff]

theorem longRow_decodes {mk : QReg → QReg → Instr} (hmk : ∀ n m, (mk n m).fields = vectorFields op 2 false 0 n m)
    (hrow : ⟨op, [2], [false], [false], false, true, true⟩ ∈ legalRows) (hop : f.op = op) (hrsv : f.rsv = 0) :
    DecodesWhen f (LegalFields f) (longRow f mk) := by
  have h : DecodesWhen f _ (longRow f mk) :=
    .plainRow fun hs hmsize => .signlessRow fun hu => .require beq_iff_eq fun hsize =>
      reductionForm_decodes (hmk _ _) hop hsize hu hs hmsize hrsv
  refine h.congr (.trans ?_ (legalFields_iff_allows hrow hop hrsv).symm)
  grind [LegalRow.Allows]

theorem signedLongRow_decodes {mkS mkU : QReg → QReg → Instr}
    (hmkS : ∀ n m, (mkS n m).fields = vectorFields op 2 false 0 n m)
    (hmkU : ∀ n m, (mkU n m).fields = vectorFields op 2 true 0 n m)
    (hrow : ⟨op, [2], [false, true], [false], false, true, true⟩ ∈ legalRows) (hop : f.op = op) (hrsv : f.rsv = 0) :
    DecodesWhen f (LegalFields f) (signedLongRow f mkS mkU) := by
  have h : DecodesWhen f _ (signedLongRow f mkS mkU) :=
    .plainRow fun hs hmsize => .require beq_iff_eq fun hsize =>
      .bySign (fun hu => reductionForm_decodes (hmkS _ _) hop hsize hu hs hmsize hrsv)
        fun hu => reductionForm_decodes (hmkU _ _) hop hsize hu hs hmsize hrsv
  refine h.congr (.trans ?_ (legalFields_iff_allows hrow hop hrsv).symm)
  grind [LegalRow.Allows]

theorem sumRow_decodes {s8 s16 s32 u8 u16 u32 : QReg → Instr} (hsigned : SumForms op false s8 s16 s32)
    (hunsigned : SumForms op true u8 u16 u32)
    (hrow : ⟨op, [0, 1, 2], [false, true], [false], false, false, true⟩ ∈ legalRows) (hop : f.op = op)
    (hrsv : f.rsv = 0) : DecodesWhen f (LegalFields f) (sumRow f s8 s16 s32 u8 u16 u32) := by
  have h : DecodesWhen f _ (sumRow f s8 s16 s32 u8 u16 u32) :=
    .plainRow fun hs hmsize => .require (q := f.qd = 0 ∧ f.qn = 0) (by simp) fun ⟨hqd, hqn⟩ =>
      .bySign (fun hu => sumForms_decode hsigned hop hu hs hmsize hqd hqn hrsv)
        fun hu => sumForms_decode hunsigned hop hu hs hmsize hqd hqn hrsv
  refine h.congr (.trans ?_ (legalFields_iff_allows hrow hop hrsv).symm)
  grind [LegalRow.Allows, size_mem_iff]

end Rows

/-! ## Memory and state access -/

theorem DecodesWhen.memoryRow {f : Fields} {p : Prop} {k : Decoded}
    (h : f.s = false → f.qn = 0 → f.qm = 0 → DecodesWhen f p k) :
    DecodesWhen f (f.s = false ∧ (f.qn = 0 ∧ f.qm = 0) ∧ p) (memoryRow f k) :=
  .require (iff_of_eq (Bool.not_eq_true' _)) fun hs => .require (by simp) fun ⟨hqn, hqm⟩ => h hs hqn hqm

/-- The six pairs of a memory row (30_encoding.md R90). -/
theorem memory_sizes : ∀ size msize : BitVec 2, size ≠ 3 → msize ≤ size →
    (size = 0 ∧ msize = 0) ∨ (size = 1 ∧ msize = 0) ∨ (size = 1 ∧ msize = 1) ∨ (size = 2 ∧ msize = 0) ∨
      (size = 2 ∧ msize = 1) ∨ (size = 2 ∧ msize = 2) := by
  decide

/-- SIZE other than 3 that makes none of the six pairs has MSIZE above it. -/
theorem not_msize_le {size msize : BitVec 2} (h3 : size = 3 → False) (h00 : size = 0 → msize = 0 → False)
    (h10 : size = 1 → msize = 0 → False) (h11 : size = 1 → msize = 1 → False) (h20 : size = 2 → msize = 0 → False)
    (h21 : size = 2 → msize = 1 → False) (h22 : size = 2 → msize = 2 → False) : ¬ msize ≤ size := by
  intro hle
  obtain ⟨h, h'⟩ | ⟨h, h'⟩ | ⟨h, h'⟩ | ⟨h, h'⟩ | ⟨h, h'⟩ | ⟨h, h'⟩ := memory_sizes size msize h3 hle
  exacts [h00 h h', h10 h h', h11 h h', h20 h h', h21 h h', h22 h h']

/-- OP 0x35: one case for each SIZE and MSIZE. -/
theorem loadRow_decodes {f : Fields} (hop : f.op = 0x35) (hrsv : f.rsv = 0) :
    DecodesWhen f (LegalFields f) (loadRow f) := by
  have h : DecodesWhen f
      (f.s = false ∧ (f.qn = 0 ∧ f.qm = 0) ∧ f.size ≠ 3 ∧ f.msize ≤ f.size ∧ (f.u = true → f.msize < f.size))
      (loadRow f) := by
    refine .memoryRow fun hs hqn hqm => ?_
    have hform {i : Instr} {size msize : BitVec 2} {u : Bool}
        (hi : i.fields = memoryFields 0x35 size u f.qd.toFin msize) (hsize : f.size = size)
        (hmsize : f.msize = msize) (hu : f.u = u) : DecodesWhen f True (.ok i) :=
      .ok trivial (hi.trans (memoryFields_eq hop hsize hu hs hqn hqm hmsize hrsv))
    split
    case h_1 hsize hmsize | h_3 hsize hmsize | h_6 hsize hmsize =>
      exact (DecodesWhen.signlessRow (hform rfl hsize hmsize)).congr (by simp [hsize, hmsize])
    case h_2 hsize hmsize | h_4 hsize hmsize | h_5 hsize hmsize =>
      exact (DecodesWhen.bySign (hform rfl hsize hmsize) (hform rfl hsize hmsize)).congr (by simp [hsize, hmsize])
    next hsize => exact .error fun h => h.1 hsize
    next h3 h00 h10 h11 h20 h21 h22 =>
      exact .error fun ⟨_, hle, _⟩ => not_msize_le h3 h00 h10 h11 h20 h21 h22 hle
  refine h.congr (.trans ?_ (legalFields_iff_load hop hrsv).symm)
  grind [LoadAllowed]

/-- OP 0x36: one case for each SIZE and MSIZE. -/
theorem storeRow_decodes {f : Fields} (hop : f.op = 0x36) (hrsv : f.rsv = 0) :
    DecodesWhen f (LegalFields f) (storeRow f) := by
  have h : DecodesWhen f
      (f.s = false ∧ (f.qn = 0 ∧ f.qm = 0) ∧ f.u = false ∧ f.size ≠ 3 ∧ f.msize ≤ f.size) (storeRow f) := by
    refine .memoryRow fun hs hqn hqm => .signlessRow fun hu => ?_
    have hform {i : Instr} {size msize : BitVec 2} (hi : i.fields = memoryFields 0x36 size false f.qd.toFin msize)
        (hsize : f.size = size) (hmsize : f.msize = msize) (hle : size ≠ 3 ∧ msize ≤ size) :
        DecodesWhen f (f.size ≠ 3 ∧ f.msize ≤ f.size) (.ok i) :=
      .ok (hsize ▸ hmsize ▸ hle) (hi.trans (memoryFields_eq hop hsize hu hs hqn hqm hmsize hrsv))
    split
    case h_1 hsize hmsize | h_2 hsize hmsize | h_3 hsize hmsize | h_4 hsize hmsize | h_5 hsize hmsize
        | h_6 hsize hmsize =>
      exact hform rfl hsize hmsize (by decide)
    next hsize => exact .error fun h => h.1 hsize
    next h3 h00 h10 h11 h20 h21 h22 => exact .error fun h => not_msize_le h3 h00 h10 h11 h20 h21 h22 h.2
  refine h.congr (.trans ?_ (legalFields_iff_store hop hrsv).symm)
  grind [StoreAllowed]

/-- OP 0x38 and 0x39: one case for each SYSREG (30_encoding.md R97). -/
theorem sysregRow_decodes {f : Fields} {op : BitVec 6} {vpr status loopcount ltpsize eci : Instr}
    (hvpr : vpr.fields = stateFields op 0) (hstatus : status.fields = stateFields op 1)
    (hloopcount : loopcount.fields = stateFields op 2) (hltpsize : ltpsize.fields = stateFields op 3)
    (heci : eci.fields = stateFields op 4) (hstate : op = 0x38 ∨ op = 0x39) (hop : f.op = op) (hrsv : f.rsv = 0) :
    DecodesWhen f (LegalFields f) (sysregRow f vpr status loopcount ltpsize eci) := by
  have h : DecodesWhen f
      (f.s = false ∧ f.msize = 0 ∧ f.u = false ∧ f.size = 0 ∧ (f.qd = 0 ∧ f.qm = 0) ∧ f.qn ≤ 4)
      (sysregRow f vpr status loopcount ltpsize eci) := by
    refine .plainRow fun hs hmsize => .signlessRow fun hu => .require beq_iff_eq fun hsize =>
      .require (by simp) fun ⟨hqd, hqm⟩ => ?_
    have hform {i : Instr} {sysreg : QReg} (hi : i.fields = stateFields op sysreg) (hqn : f.qn = .ofFin sysreg)
        (hle : BitVec.ofFin sysreg ≤ (4 : BitVec 3)) : DecodesWhen f (f.qn ≤ 4) (.ok i) := by
      refine .ok (hqn ▸ hle) (hi.trans ?_)
      have hf := vectorFields_eq hop hsize hu hs hmsize hrsv
      rwa [hqd, hqm, hqn] at hf
    split
    next hqn => exact hform hvpr hqn (by decide)
    next hqn => exact hform hstatus hqn (by decide)
    next hqn => exact hform hloopcount hqn (by decide)
    next hqn => exact hform hltpsize hqn (by decide)
    next hqn => exact hform heci hqn (by decide)
    next h0 h1 h2 h3 h4 =>
      refine .error ?_
      generalize f.qn = qn at h0 h1 h2 h3 h4
      revert qn
      decide
  refine h.congr (.trans ?_ (legalFields_iff_stateAccess (hop ▸ hstate) hrsv).symm)
  grind [StateAccessAllowed]

/-! ## The decoder -/

/-- The OP of legal fields is one of the table's. -/
theorem op_mem_of_legal {f : Fields} (h : LegalFields f) :
    f.op ∈ legalRows.map LegalRow.op ++ [0x35, 0x36, 0x38, 0x39] := by
  obtain ⟨-, ⟨r, hr, hallows⟩ | ⟨hop, -⟩ | ⟨hop, -⟩ | ⟨hop | hop, -⟩⟩ := h
  · exact List.mem_append_left _ (List.mem_map.mpr ⟨r, hr, hallows.1.symm⟩)
  all_goals simp [hop]

/-- The decoder is the legality table: each OP has its row's shape, and an OP of no row is refused. The cases
are the decoder's arms in their order, put together by the shape of their row. -/
theorem decodeFields_decodes (f : Fields) : DecodesWhen f (LegalFields f) (decodeFields f) := by
  refine DecodesWhen.congr (p := f.rsv = 0 ∧ LegalFields f) (.require beq_iff_eq fun hrsv => ?_)
    (and_iff_right_of_imp And.left)
  split
  case h_1 hop | h_2 hop | h_3 hop | h_4 hop | h_5 hop =>
    exact bitwiseRow_decodes (fun _ _ _ => rfl) (by simp [legalRows]) hop hrsv
  case h_6 hop | h_7 hop | h_8 hop | h_22 hop | h_23 hop =>
    exact scalarRow_decodes (fun _ _ _ => ⟨rfl, rfl, rfl⟩) (fun _ _ => ⟨rfl, rfl, rfl⟩) (by simp [legalRows]) hop hrsv
  case h_9 hop | h_10 hop | h_11 hop | h_20 hop | h_21 hop =>
    exact signedRow_decodes (fun _ _ _ => ⟨rfl, rfl, rfl⟩) (fun _ _ _ => ⟨rfl, rfl, rfl⟩) (by simp [legalRows]) hop hrsv
  case h_12 hop | h_13 hop | h_14 hop | h_15 hop | h_16 hop | h_17 hop | h_18 hop | h_19 hop =>
    exact signedScalarRow_decodes (fun _ _ _ => ⟨rfl, rfl, rfl⟩) (fun _ _ _ => ⟨rfl, rfl, rfl⟩)
      (fun _ _ => ⟨rfl, rfl, rfl⟩) (fun _ _ => ⟨rfl, rfl, rfl⟩) (by simp [legalRows]) hop hrsv
  case h_24 hop | h_25 hop | h_26 hop | h_27 hop | h_28 hop | h_29 hop | h_30 hop | h_31 hop | h_32 hop | h_33 hop =>
    exact vectorRow_decodes (fun _ _ _ => ⟨rfl, rfl, rfl⟩) (by simp [legalRows]) hop hrsv
  case h_34 hop | h_35 hop | h_36 hop | h_37 hop =>
    exact carryRow_decodes (fun _ _ _ => rfl) (by simp [legalRows]) hop hrsv
  case h_38 hop =>
    exact signedDualRow_decodes (fun _ _ => ⟨rfl, rfl, rfl⟩) (fun _ _ => ⟨rfl, rfl, rfl⟩) (by simp [legalRows]) hop hrsv
  case h_39 hop | h_40 hop | h_41 hop =>
    exact dualRow_decodes (fun _ _ => ⟨rfl, rfl, rfl⟩) (by simp [legalRows]) hop hrsv
  case h_42 hop =>
    exact signedLongRow_decodes (fun _ _ => rfl) (fun _ _ => rfl) (by simp [legalRows]) hop hrsv
  case h_43 hop | h_44 hop | h_45 hop => exact longRow_decodes (fun _ _ => rfl) (by simp [legalRows]) hop hrsv
  case h_46 hop =>
    exact sumRow_decodes (fun _ => ⟨rfl, rfl, rfl⟩) (fun _ => ⟨rfl, rfl, rfl⟩) (by simp [legalRows]) hop hrsv
  case h_47 hop => exact loadRow_decodes hop hrsv
  case h_48 hop => exact storeRow_decodes hop hrsv
  case h_49 hop | h_50 hop => exact sysregRow_decodes rfl rfl rfl rfl rfl (by decide) hop hrsv
  case h_51 =>
    refine .error fun hlegal => ?_
    have hop := op_mem_of_legal hlegal
    simp_all [legalRows]

/-! ## Words -/

/-- The encoder's fields of every constructor decode to it, whatever its registers: the family FieldsRoundTrip as one
statement. -/
theorem decodeFields_fields (i : Instr) : Laws.FieldsRoundTrip.Statement i := by
  cases i <;> rfl

/-- A word decodes to an operation exactly when it is its descriptor. -/
theorem decode_eq_ok_iff {w : Word} {i : Instr} : decode w = .ok i ↔ encode i = w := by
  constructor
  · intro h
    rw [encode, (decodeFields_decodes _).fields_eq h, toWord_ofWord]
  · rintro rfl
    exact (decode_toWord _).trans (decodeFields_fields i)

/-- Settles O1: the fields of the encoding are the operation's, and they decode to it. -/
theorem decodeOfEncodeIsTheInstruction : Obligations.DecodeOfEncodeIsTheInstruction :=
  fun _ => decode_eq_ok_iff.mpr rfl

/-- Settles O2: every row of the decoder answers an operation whose fields are the word's. -/
theorem legalWordIsTheEncodingOfItsInstruction : Obligations.LegalWordIsTheEncodingOfItsInstruction :=
  fun _ _ h => decode_eq_ok_iff.mp h

/-- Settles O3: every row of the decoder answers exactly where the table's row allows the fields. -/
theorem legalDescriptorsAreTheRowsOfTheTable : Obligations.LegalDescriptorsAreTheRowsOfTheTable :=
  fun w => (decodeFields_decodes (Fields.ofWord w)).exists_ok_iff

/-- Settles O4: each word is the encoding of the operation the spec names. -/
theorem specExampleWordsDecode : Obligations.SpecExampleWordsDecode := by
  simp only [Obligations.SpecExampleWordsDecode, decode_eq_ok_iff]
  decide

/-! ## Illegal descriptors -/

/-- An operation that names a register of NQ or more is not well formed (30_encoding.md R84). -/
theorem not_wellFormed_of_register {nq : Nat} {i : Instr} {r : QReg} (hr : r ∈ i.registers) (hnq : nq ≤ r.val) :
    i.wellFormed nq ≠ true := by
  intro h
  have hlt : r.val < nq := by simpa using List.all_eq_true.mp h r hr
  omega

/-- A descriptor outside the legality table, or one that names a register the machine has not, is refused
(30_encoding.md R84, R90). -/
theorem decodeFor_refuses {nq : Nat} {w : Word}
    (h : ¬ LegalFields (Fields.ofWord w) ∨ ∃ i, decode w = .ok i ∧ ∃ r ∈ i.registers, nq ≤ r.val) :
    ∃ why, decodeFor nq w = .error why := by
  cases hdec : decodeFor nq w with
  | error why => exact ⟨why, rfl⟩
  | ok i =>
    obtain ⟨hi, hwf⟩ := decodeFor_eq_ok hdec
    rcases h with hillegal | ⟨i', hi', r, hr, hnq⟩
    · exact absurd ((legalDescriptorsAreTheRowsOfTheTable w).mp ⟨i, hi⟩) hillegal
    · obtain rfl : i = i' := Except.ok.inj (hi.symm.trans hi')
      exact absurd hwf (not_wellFormed_of_register hr hnq)

/-- A step that takes a transaction whose descriptor is refused (60_exceptions.md R253). -/
theorem step_of_refused {s : State} {t : Transaction} {rest : List Input} {why : Illegal}
    (hin : s.inputs = .transaction t :: rest) (hrun : s.halted = false)
    (hdec : decodeFor s.cfg.nq t.desc = .error why) :
    step s = refuseDescriptor ((s.withInputs rest).present t) := by
  rw [step_of_inputs hin]
  simp [takeInput, runTransaction, hrun, hdec]

/-- Settles O6: both ways of being illegal are refused, and a refusal writes the outputs only. -/
theorem illegalDescriptorChangesNoState : Obligations.IllegalDescriptorChangesNoState := by
  intro s t rest hin hrun hillegal
  obtain ⟨why, hdec⟩ := decodeFor_refuses hillegal
  exact step_of_refused hin hrun hdec

end Sys2Proof.Machine
end

section
/-! SUPPORT. The bits of the resolved mask, of the Advancer's VPR, of the merge and of the Mask Expansion Table, how
every vector operation ends, and from them the statements of 40_predication.md. -/

namespace Sys2Proof.Machine

/-! ## How a vector operation ends -/

/-- What the body of a vector operation keeps: its frame, and STATUS too where a memory fault ends it. -/
def BodyKeeps (s : State) : Body → Prop
  | .completed u _ => BodyFrame s u
  | .aborted u _ => BodyFrame s u ∧ u.status = s.status

/-- A body that keeps the frame and STATUS either way. -/
theorem bodyKeeps_of_state {s : State} {b : Body} (hframe : BodyFrame s b.state)
    (hstatus : b.state.status = s.status) : BodyKeeps s b := by
  cases b with
  | completed u res => exact hframe
  | aborted u info => exact ⟨hframe, hstatus⟩

/-- A vector operation is the execution sequence around the commit of its effects. -/
theorem vectorOp_keeps {r : Result} {s : State} {d : QReg} {effects : Mask → Effects}
    (hop : r = vectorOp d effects s) : ∃ body, r = execute s body ∧ ∀ m e, BodyKeeps s (body m e) :=
  ⟨_, hop, fun m _ => bodyFrame_commit s d m (effects m)⟩

/-- Every operation but MSR and MRS is the execution sequence of 40_predication.md R123 around a body that keeps the
frame, and STATUS where it faults. -/
theorem exec_eq_execute {i : Instr} (hi : i ∉ stateAccess) (s : State) :
    ∃ body, exec i s = execute s body ∧ ∀ m e, BodyKeeps s (body m e) := by
  cases exec_shape s i with
  | vector d effects hop => exact vectorOp_keeps hop
  | carry cin inv always d n m hop => exact vectorOp_keeps hop
  | reduce value hop => exact ⟨_, hop, fun _ _ => bodyFrame_refl s⟩
  | load w ms u d hop =>
    exact ⟨_, hop, fun m e => bodyKeeps_of_state (bodyFrame_loadElements w ms u d m e _ s)
      (loadElements_status_mem w ms u d m e _ s).1⟩
  | store w ms d hop =>
    exact ⟨_, hop, fun m _ => bodyKeeps_of_state (bodyFrame_storeElements w ms d m _ s)
      (storeElements_status w ms d m _ s)⟩
  | write r hop hmsr => exact absurd (List.mem_append_left _ (List.mem_map_of_mem hmsr)) hi
  | read r hop hmrs => exact absurd (List.mem_append_right _ (List.mem_map_of_mem hmrs)) hi

/-- The Advancer after a body that kept VPR, ECI and the parameters advances the state before the operation. -/
theorem advances_after_body {s u : State} (hu : BodyFrame s u) (e : Mask) (res : Option DWord) :
    Advances s ((u.advance e).finish .done res) e := by
  obtain ⟨⟨-, -, -, -, -, hcfg, -⟩, hvpr, heci⟩ := hu
  constructor
  · rw [State.finish_eci, State.advance_eci, heci]
  · rw [State.finish_vpr, State.advance_vpr, hcfg, hvpr]

/-- Settles O19, by the two ways a body ends: the Advancer follows a completed one and no aborted one. -/
theorem vectorOperationAdvancesExactlyWhenItCompletes :
    Obligations.VectorOperationAdvancesExactlyWhenItCompletes := by
  intro i s e hi he
  obtain ⟨body, hop, hkeeps⟩ := exec_eq_execute hi s
  have hbody := hkeeps (s.resolve e) e
  rw [hop, execute_legal he]
  cases hb : body (s.resolve e) e with
  | completed u res =>
    rw [hb] at hbody
    exact ⟨_, rfl, hbody.1, .inl ⟨rfl, advances_after_body hbody e res⟩⟩
  | aborted u info =>
    rw [hb] at hbody
    obtain ⟨⟨hrest, hpred⟩, hstatus⟩ := hbody
    exact ⟨_, rfl, hrest, .inr ⟨⟨info, rfl⟩, rfl, hpred, hstatus⟩⟩

/-! ## The bits of the constant masks -/

/-- The bytes of beats 0 and 1, which MASK01 governs (10_state.md R34). -/
theorem getLsbD_lowHalf {b : Nat} (h : b < 16) : (0x00FF#16 : Mask).getLsbD b = decide (b < 8) := by
  revert b
  decide

/-- The bytes of beats 2 and 3, which MASK23 governs (10_state.md R34). -/
theorem getLsbD_highHalf {b : Nat} (h : b < 16) : (0xFF00#16 : Mask).getLsbD b = !decide (b < 8) := by
  revert b
  decide

/-- The bytes of beat 1 (40_predication.md R121). -/
theorem getLsbD_beat1 {b : Nat} (h : b < 16) : (0x00F0#16 : Mask).getLsbD b = decide (4 ≤ b ∧ b < 8) := by
  revert b
  decide

/-- Bit b of P0 is bit b of VPR (10_state.md R34). -/
theorem getLsbD_vprP0 (v : Word) {b : Nat} (h : b < 16) : (vprP0 v).getLsbD b = v.getLsbD b := by
  simp [vprP0, h]

/-! ## The resolved mask -/

/-- A mask field of 0 forces the bytes of its half (40_predication.md R111). -/
theorem getLsbD_forcedHalf (field : BitVec 4) (half : Mask) (b : Nat) :
    (if field = 0 then half else 0#16).getLsbD b = true ↔ field = 0 ∧ half.getLsbD b = true := by
  split
  next hclear => exact (and_iff_right hclear).symm
  next hset => exact iff_of_false (by simp) fun hforced => hset hforced.1

/-- A byte is predicated active when its P0 bit is 1 or the mask field of its half is 0 (40_predication.md R111). -/
theorem getLsbD_predicateMask (v : Word) {b : Nat} (h : b < 16) :
    (predicateMask v).getLsbD b = true ↔
      v.getLsbD b = true ∨ (if b < 8 then vprMask01 v = 0 else vprMask23 v = 0) := by
  rw [predicateMask, BitVec.getLsbD_or, BitVec.getLsbD_or, Bool.or_eq_true, Bool.or_eq_true, getLsbD_forcedHalf,
    getLsbD_forcedHalf, getLsbD_vprP0 v h, getLsbD_lowHalf h, getLsbD_highHalf h]
  by_cases hlow : b < 8
  · simp [hlow]
  · simp [hlow]

/-- Tail predication leaves the bytes below LOOPCOUNT << LTPSIZE, and every byte where it is inactive
(40_predication.md R112). -/
theorem getLsbD_tailMask (loopcount : Word) (ltpsize : BitVec 3) {b : Nat} (h : b < 16) :
    (tailMask loopcount ltpsize).getLsbD b = true ↔
      4 ≤ ltpsize.toNat ∨ 16 / 2 ^ ltpsize.toNat < loopcount.toNat ∨ b < loopcount.toNat * 2 ^ ltpsize.toNat := by
  rw [tailMask, Nat.shiftRight_eq_div_pow]
  split
  next hactive =>
    rw [Nat.one_shiftLeft, Nat.shiftLeft_eq, BitVec.getLsbD_ofNat, Nat.testBit_two_pow_sub_one, decide_eq_true h,
      Bool.true_and, decide_eq_true_iff]
    omega
  next hinactive =>
    rw [getLsbD_fullMask h]
    simp only [true_iff]
    omega

/-- Settles O16: the mask is the conjunction of its three masks, bit by bit. -/
theorem resolvedMaskBitByBit : Obligations.ResolvedMaskBitByBit := by
  intro s e b _ hb
  rw [State.resolve, BitVec.getLsbD_and, BitVec.getLsbD_and, Bool.and_eq_true, Bool.and_eq_true,
    getLsbD_predicateMask s.vpr hb, getLsbD_tailMask _ _ hb, and_assoc]
  rfl

/-- Settles O17. -/
theorem eciExecuteMaskTable : Obligations.EciExecuteMaskTable :=
  ⟨rfl, rfl, rfl, rfl, rfl, eciExecMask_none_iff⟩

/-! ## The Advancer -/

/-- A mask field of 8 or less keeps its own half out of the inversion; `other` is the other half (40_predication.md
R121). -/
theorem getLsbD_invertibleHalf (field : BitVec 4) (other : Mask) {b : Nat} (h : b < 16) :
    (if field.toNat ≤ 8 then other else 0xFFFF#16).getLsbD b = (other.getLsbD b || decide (8 < field.toNat)) := by
  split
  next hle => rw [decide_eq_false (Nat.not_lt.mpr hle), Bool.or_false]
  next hgt => rw [getLsbD_fullMask h, decide_eq_true (Nat.lt_of_not_le hgt), Bool.or_true]

/-- Bit b of P0 is inverted when its half's mask field is above 8 and, with gating, its byte was executed
(40_predication.md R121). -/
theorem getLsbD_inversion (gating : Bool) (e : Mask) (m01 m23 : BitVec 4) {b : Nat} (h : b < 16) :
    (inversion gating e m01 m23).getLsbD b =
      ((!gating || e.getLsbD b) && (if b < 8 then decide (8 < m01.toNat) else decide (8 < m23.toNat))) := by
  have hgate : (if gating then e else 0xFFFF#16).getLsbD b = (!gating || e.getLsbD b) := by
    cases gating with
    | false => exact getLsbD_fullMask h
    | true => rfl
  rw [inversion, BitVec.getLsbD_and, BitVec.getLsbD_and, hgate, getLsbD_invertibleHalf _ _ h,
    getLsbD_invertibleHalf _ _ h, getLsbD_highHalf h, getLsbD_lowHalf h]
  by_cases hlow : b < 8
  · simp [hlow]
  · simp [hlow]

/-- A mask is not empty exactly when it has a byte. -/
theorem mask_ne_zero_iff (m : Mask) : m ≠ 0 ↔ ∃ b, b < 16 ∧ m.getLsbD b = true := by
  constructor
  · intro hne
    by_contra hnone
    refine hne (BitVec.eq_of_getLsbD_eq fun b hb => ?_)
    simpa using fun hbit => hnone ⟨b, hb, hbit⟩
  · rintro ⟨b, -, hbit⟩ rfl
    simp at hbit

/-- A mask meets beat 1 exactly when it has one of the bytes 4 to 7. -/
theorem meets_beat1_iff (e : Mask) :
    ((e &&& 0x00F0#16) != 0) = true ↔ ∃ b, 4 ≤ b ∧ b < 8 ∧ e.getLsbD b = true := by
  rw [bne_iff_ne, mask_ne_zero_iff]
  constructor
  · rintro ⟨b, hb, hbit⟩
    rw [BitVec.getLsbD_and, getLsbD_beat1 hb, Bool.and_eq_true, decide_eq_true_iff] at hbit
    obtain ⟨he, h4, h8⟩ := hbit
    exact ⟨b, h4, h8, he⟩
  · rintro ⟨b, h4, h8, he⟩
    have hb : b < 16 := by omega
    exact ⟨b, hb, by rw [BitVec.getLsbD_and, getLsbD_beat1 hb, he, decide_eq_true ⟨h4, h8⟩, Bool.and_true]⟩

/-- MASK01 shifts when the Advancer is not gated or the operation executed beat 1 (40_predication.md R121). -/
theorem shiftsMask01_iff (gating : Bool) (e : Mask) :
    (!gating || (e &&& 0x00F0#16) != 0) = true ↔
      gating = false ∨ ∃ b, 4 ≤ b ∧ b < 8 ∧ e.getLsbD b = true := by
  rw [Bool.or_eq_true, Bool.not_eq_true', meets_beat1_iff]

/-- Settles O18: with a mask field set the new VPR is made of its three fields, and each is read off. -/
theorem advanceVprInvertsAndShifts : Obligations.AdvanceVprInvertsAndShifts := by
  intro gating e v
  refine ⟨fun hclear => if_pos hclear, fun hset => ?_⟩
  rw [← shiftsMask01_iff, advanceVpr, if_neg hset]
  obtain ⟨hp0, hm01, hm23, hhigh⟩ := vprOf_fields (vprP0 v ^^^ inversion gating e (vprMask01 v) (vprMask23 v))
    (if !gating || (e &&& 0x00F0#16) != 0 then vprMask01 v <<< 1 else vprMask01 v) (vprMask23 v <<< 1)
  refine ⟨fun b hb => ?_, fun hshift => hm01.trans (if_pos hshift), fun hkeep => hm01.trans (if_neg hkeep), hm23, hhigh⟩
  rw [← getLsbD_vprP0 _ hb, hp0, BitVec.getLsbD_xor, getLsbD_inversion _ _ _ _ hb, getLsbD_vprP0 v hb]

/-! ## The merge and the Mask Expansion Table -/

/-- Byte b of a merge is the new one where the mask has it and the old one where it has not (40_predication.md R117). -/
theorem byteAt_merge (old new : QWord) (k : Mask) {b : Nat} (h : b < 16) :
    byteAt (merge old new k) b = if k.getLsbD b then byteAt new b else byteAt old b :=
  elem_ofLanes 8 (fun b => if k.getLsbD b then byteAt new b else byteAt old b) b h

/-- No predicate bit expands to no byte (40_predication.md R116). -/
theorem expand_zero (k : Nat) : expand k 0#k = 0#(8 * k) := by
  refine BitVec.eq_of_getLsbD_eq fun j hj => ?_
  rw [getLsbD_expand k 0#k j hj, BitVec.getLsbD_zero, BitVec.getLsbD_zero]

/-- A lane none of whose predicate bits is 1 keeps its old value (40_predication.md R118). -/
theorem mergeLane_of_inactive {m : Mask} {e w : Nat} (h : lanePredicate m e w = 0) (old new : BitVec w) :
    mergeLane m e w old new = old := by
  have hpred : lanePredicate m e w = 0#(w / 8) := h
  rw [mergeLane, hpred, expand_zero]
  simp

/-- The full mask overwrites (40_predication.md R118). -/
theorem merge_fullMask (old new : QWord) : merge old new 0xFFFF = new := by
  refine BitVec.eq_of_getLsbD_eq fun j hj => ?_
  rw [getLsbD_merge old new _ j hj]
  exact if_pos (getLsbD_fullMask (by omega))

/-- The empty mask writes nothing (40_predication.md R118). -/
theorem merge_zero (old new : QWord) : merge old new 0#16 = old := by
  refine BitVec.eq_of_getLsbD_eq fun j hj => ?_
  rw [getLsbD_merge old new _ j hj, BitVec.getLsbD_zero, if_neg Bool.false_ne_true]

/-- The lane widths of the spec are whole numbers of bytes. -/
theorem laneWidth_mod {w : Nat} (h : w ∈ [8, 16, 32, 64]) : w % 8 = 0 := by
  revert w
  decide

/-- Settles O22: the byte form, the lane form, and the two ends of the mask. -/
theorem mergeIdentities : Obligations.MergeIdentities := by
  refine fun old new k => ⟨fun b => byteAt_merge old new k, fun w hw e he => ?_, merge_fullMask old new,
    merge_zero old new⟩
  have hlane := elem_merge_of_bytes (laneWidth_mod hw) old new k e (lane_fits he)
  exact ⟨hlane, fun hnone => hlane.trans (mergeLane_of_inactive hnone _ _)⟩

/-- Settles O23: each bit of byte i is predicate bit i. -/
theorem expansionTableExpandsEachPredicateBit : Obligations.ExpansionTableExpandsEachPredicateBit := by
  intro k _ p i hi
  refine BitVec.eq_of_getLsbD_eq fun j hj => ?_
  have hbyte : (8 * i + j) / 8 = i := by omega
  have hones : (0xFF#8).getLsbD j = true := (BitVec.getLsbD_allOnes (v := 8)).trans (decide_eq_true hj)
  rw [BitVec.getLsbD_extractLsb', getLsbD_expand k p _ (by omega), hbyte, decide_eq_true hj, Bool.true_and]
  cases p.getLsbD i with
  | false => exact BitVec.getLsbD_zero.symm
  | true => exact hones.symm

end Sys2Proof.Machine
end

section
/-! SUPPORT. What a bitwise operation writes, bit by bit, and from it the statement of 41_bitwise.md. -/

namespace Sys2Proof.Machine

/-- The register function g applies the Boolean function f to each pair of bits (41_bitwise.md R140). -/
def ActsBitByBit (g : QWord → QWord → QWord) (f : Bool → Bool → Bool) : Prop :=
  ∀ (x y : QWord) (j : Nat), j < 128 → (g x y).getLsbD j = f (x.getLsbD j) (y.getLsbD j)

theorem actsBitByBit_and : ActsBitByBit (fun x y => x &&& y) (fun x y => x && y) :=
  fun _ _ _ _ => BitVec.getLsbD_and

theorem actsBitByBit_or : ActsBitByBit (fun x y => x ||| y) (fun x y => x || y) :=
  fun _ _ _ _ => BitVec.getLsbD_or

theorem actsBitByBit_xor : ActsBitByBit (fun x y => x ^^^ y) (fun x y => x.xor y) :=
  fun _ _ _ _ => BitVec.getLsbD_xor

/-- Complementing the second register complements its bits: what VBIC and VORN add to VAND and VORR. -/
theorem ActsBitByBit.not_right {g : QWord → QWord → QWord} {f : Bool → Bool → Bool} (h : ActsBitByBit g f) :
    ActsBitByBit (fun x y => g x (~~~y)) (fun x y => f x (!y)) := by
  intro x y j hj
  rw [h x (~~~y) j hj, BitVec.getLsbD_not, decide_eq_true hj, Bool.true_and]

/-- An operation that writes every byte is selected by M alone (40_predication.md R125). -/
theorem and_fullMask (m : Mask) : m &&& 0xFFFF#16 = m := BitVec.and_allOnes

/-- A bitwise operation with a legal ECI: the frame, STATUS, and Q[d] bit by bit from the old operands, whichever
registers coincide. -/
theorem bitwiseOp_spec {s : State} {e : Mask} (he : eciExecMask s.eci = some e) {g : QWord → QWord → QWord}
    {f : Bool → Bool → Bool} (hg : ActsBitByBit g f) (d n m : QReg) :
    ∃ t, bitwiseOp g d n m s = .next t ∧ WritesOnlyQ s t d e ∧ t.status = s.status ∧
      ∀ j, j < 128 → t.q[d].getLsbD j =
        if (s.resolve e).getLsbD (j / 8) then f (s.q[n].getLsbD j) (s.q[m].getLsbD j) else s.q[d].getLsbD j := by
  obtain ⟨t, hnext, hframe, hq, hstatus⟩ := vectorOp_spec he d fun _ => { r := g s.q[n] s.q[m] }
  have hmerged : t.q[d] = merge s.q[d] (g s.q[n] s.q[m]) (s.resolve e) :=
    hq.trans (congrArg (merge s.q[d] (g s.q[n] s.q[m])) (and_fullMask (s.resolve e)))
  refine ⟨t, hnext, hframe, hstatus.trans (statusAfter_plain rfl rfl s.status), fun j hj => ?_⟩
  rw [hmerged, getLsbD_merge _ _ _ j hj, hg _ _ j hj]

/-- Settles O26: each operation is the bitwise operation of its Boolean function. -/
theorem bitwiseOperations : Obligations.BitwiseOperations := by
  intro s e d n m he i f hi
  simp only [List.mem_cons, List.not_mem_nil, or_false, Prod.mk.injEq] at hi
  rcases hi with ⟨rfl, rfl⟩ | ⟨rfl, rfl⟩ | ⟨rfl, rfl⟩ | ⟨rfl, rfl⟩ | ⟨rfl, rfl⟩
  · exact bitwiseOp_spec he actsBitByBit_and d n m
  · exact bitwiseOp_spec he actsBitByBit_and.not_right d n m
  · exact bitwiseOp_spec he actsBitByBit_or d n m
  · exact bitwiseOp_spec he actsBitByBit_or.not_right d n m
  · exact bitwiseOp_spec he actsBitByBit_xor d n m

end Sys2Proof.Machine
end

section
/-! SUPPORT. How a family of lane-local operations meets its shape of statement, wrapping or saturating, and from it the
statements of 42_arith.md. -/

namespace Sys2Proof.Machine

/-! ## The two shapes of a lane-local family -/

/-- Every form of the family is the lane-local operation of lane function f, at the form's own width, signedness and
second operand (42_arith.md R150). -/
abbrev FormsRun (forms : QReg → QReg → QReg → List (Instr × Width × Bool × Operand2))
    (f : Nat → Bool → Int → Int → Int × Bool) : Prop :=
  ∀ {d n m : QReg} {i : Instr} {w : Width} {u : Bool} {src : Operand2}, (i, w, u, src) ∈ forms d n m →
    ∀ s, exec i s = laneOp f w u d n src s

/-- A family whose lane function gives `value` and never saturates wraps every lane to `value`
(42_arith.md R150). -/
theorem wrapsLanes_of_laneOp {forms : QReg → QReg → QReg → List (Instr × Width × Bool × Operand2)}
    {f : Nat → Bool → Int → Int → Int × Bool} {value : Int → Int → Int}
    (hop : FormsRun forms f) (hf : ∀ w u a b, f w u a b = (value a b, false)) : WrapsLanes forms value := by
  intro s e d n m he i w u src hi
  have hplain : ∀ w u a b, (f w u a b).2 = false := fun w u a b => congrArg Prod.snd (hf w u a b)
  obtain ⟨t, hnext, hframe, hstatus, hlanes⟩ := laneOp_plain he hplain w u d n src
  refine ⟨t, (hop hi s).trans hnext, hframe, hstatus, ?_⟩
  simpa only [hf] using hlanes

/-- A family whose lane function is Sat of `value` clamps every lane of `value`, and QC latches the active lanes
that did not fit (00_scope.md R13, 40_predication.md R119). -/
theorem saturatesLanes_of_laneOp {forms : QReg → QReg → QReg → List (Instr × Width × Bool × Operand2)}
    {f : Nat → Bool → Int → Int → Int × Bool} {value : Nat → Int → Int → Int}
    (hop : FormsRun forms f) (hf : ∀ w u a b, f w u a b = sat (value w a b) w u) : SaturatesLanes forms value := by
  intro s e d n m he i w u src hi exactValue
  obtain ⟨t, hnext, hframe, hlanes, hqc⟩ := laneEffects_spec he d w fun k =>
    f w.bits u (intOf u (s.lane n k w.bits)) (intOf u (s.lane2 src k w.bits))
  simp only [hf, sat_eq_clamp, sat_indicates] at hlanes hqc
  exact ⟨t, (hop hi s).trans hnext, hframe, hqc, hlanes⟩

/-! ## The lane functions -/

/-- The comparison of R154 is the larger operand. -/
theorem maxLane_eq (w : Nat) (u : Bool) (a b : Int) : maxLane w u a b = (max a b, false) :=
  congrArg (·, false) (max_def' a b).symm

/-- The comparison of R155 is the smaller operand. -/
theorem minLane_eq (w : Nat) (u : Bool) (a b : Int) : minLane w u a b = (min a b, false) :=
  congrArg (·, false) (min_def' a b).symm

/-- The two differences of R156 are the distance. -/
theorem absDiffLane_eq (w : Nat) (u : Bool) (a b : Int) : absDiffLane w u a b = (|a - b|, false) := by
  unfold absDiffLane
  split
  next hge => rw [abs_of_nonneg (sub_nonneg.mpr hge)]
  next hlt => rw [abs_of_neg (sub_neg.mpr (not_le.mp hlt)), neg_sub]

/-- The arithmetic shift of R157 is the floor of half the sum. -/
theorem halvingAddLane_eq (w : Nat) (u : Bool) (a b : Int) : halvingAddLane w u a b = ((a + b) / 2, false) :=
  congrArg (·, false) (Int.shiftRight_eq_div_pow (a + b) 1)

/-- The arithmetic shift of R158 is the floor of half the difference. -/
theorem halvingSubLane_eq (w : Nat) (u : Bool) (a b : Int) : halvingSubLane w u a b = ((a - b) / 2, false) :=
  congrArg (·, false) (Int.shiftRight_eq_div_pow (a - b) 1)

/-! ## The saturating families -/

section
variable {d n m : QReg} {i : Instr} {w : Width} {u : Bool} {src : Operand2}

/-- Every form of VQADD is the lane-local operation of its lane function (42_arith.md R159). -/
theorem exec_vqaddForms (hf : (i, w, u, src) ∈ vqaddForms d n m) (s : State) :
    exec i s = laneOp satAddLane w u d n src s := by
  fin_cases hf <;> rfl

/-- Every form of VQSUB is the lane-local operation of its lane function (42_arith.md R160). -/
theorem exec_vqsubForms (hf : (i, w, u, src) ∈ vqsubForms d n m) (s : State) :
    exec i s = laneOp satSubLane w u d n src s := by
  fin_cases hf <;> rfl

end

/-! ## The statements -/

/-- Settles O27: the three lane functions are the sum, the difference and the product. -/
theorem addSubtractMultiplyWrapEveryLane : Obligations.AddSubtractMultiplyWrapEveryLane :=
  ⟨wrapsLanes_of_laneOp exec_vaddForms fun _ _ _ _ => rfl, wrapsLanes_of_laneOp exec_vsubForms fun _ _ _ _ => rfl,
    wrapsLanes_of_laneOp exec_vmulForms fun _ _ _ _ => rfl⟩

/-- Settles O28: the comparisons of the three lane functions are the maximum, the minimum and the distance. -/
theorem maximumMinimumAndDistance : Obligations.MaximumMinimumAndDistance :=
  ⟨wrapsLanes_of_laneOp exec_vmaxForms maxLane_eq, wrapsLanes_of_laneOp exec_vminForms minLane_eq,
    wrapsLanes_of_laneOp exec_vabdForms absDiffLane_eq⟩

/-- Settles O29: the exact sum or difference, shifted right by one place, is the floor of its half. -/
theorem halvingAddAndSubtractFloor : Obligations.HalvingAddAndSubtractFloor :=
  ⟨wrapsLanes_of_laneOp exec_vhaddForms halvingAddLane_eq, wrapsLanes_of_laneOp exec_vhsubForms halvingSubLane_eq⟩

/-- Settles O30: the two lane functions are Sat of the exact sum and the exact difference. -/
theorem saturatingAddAndSubtractClamp : Obligations.SaturatingAddAndSubtractClamp :=
  ⟨saturatesLanes_of_laneOp exec_vqaddForms fun _ _ _ _ => rfl,
    saturatesLanes_of_laneOp exec_vqsubForms fun _ _ _ _ => rfl⟩

end Sys2Proof.Machine
end

section
/-! SUPPORT. What a shift by a signed amount, a widening multiply and a doubling multiply high compute in one lane, and
from it the statements of 43_shift_mul.md. -/

namespace Sys2Proof.Machine

/-! ## One lane of a shift -/

/-- A right shift is the exact shift, whether or not the operation saturates (43_shift_mul.md R170). -/
theorem shift_right {sh : Int} (hsh : sh < 0) (x : Int) (w : Nat) (u round saturate : Bool) :
    shift x sh w u round saturate = (shifted round x sh, false) := by
  have hdiv : ∀ y : Int, y >>> (-sh).toNat = y / 2 ^ (-sh).toNat := fun y => by
    rw [Int.shiftRight_eq_div_pow, Nat.cast_pow, Nat.cast_ofNat]
  rw [shift, shifted, if_pos hsh, if_neg (not_le.mpr hsh)]
  cases round
  case false => exact congrArg (·, false) (hdiv x)
  case true => exact congrArg (·, false) (hdiv (x + 2 ^ ((-sh).toNat - 1)))

/-- A left shift of a wrapping operation is the exact shift (43_shift_mul.md R170). -/
theorem shift_left_wraps {sh : Int} (hsh : 0 ≤ sh) (x : Int) (w : Nat) (u round : Bool) :
    shift x sh w u round false = (shifted round x sh, false) := by
  simp [shift, shifted, hsh, not_lt.mpr hsh]

/-- A left shift of a saturating operation is Sat of the exact shift: where Sat does not clamp, the two branches of
R170 agree. -/
theorem shift_left_saturates {sh : Int} (hsh : 0 ≤ sh) (x : Int) (w : Nat) (u round : Bool) :
    shift x sh w u round true = sat (shifted round x sh) w u := by
  rw [shift, shifted, if_neg (not_lt.mpr hsh), if_pos hsh]
  simp only [Bool.and_true]
  split
  next => rfl
  next hfits =>
    have hvalue : (sat (x * 2 ^ sh.toNat) w u).1 = x * 2 ^ sh.toNat :=
      not_not.mp fun hne => hfits ((sat_indicates_iff_ne _ w u).mpr hne)
    exact Prod.ext hvalue.symm (Bool.eq_false_iff.mpr hfits).symm

/-- Every shift of a wrapping operation, to either side, is the exact shift. -/
theorem shift_wraps_eq (x sh : Int) (w : Nat) (u round : Bool) :
    shift x sh w u round false = (shifted round x sh, false) := by
  rcases lt_or_ge sh 0 with hright | hleft
  · exact shift_right hright x w u round false
  · exact shift_left_wraps hleft x w u round

/-- A saturating operation clamps to the left only. -/
theorem shift_saturates_value (x sh : Int) (w : Nat) (u round : Bool) :
    (shift x sh w u round true).1 = if 0 ≤ sh then clamp w u (shifted round x sh) else shifted round x sh := by
  split
  next hleft => rw [shift_left_saturates hleft, sat_eq_clamp]
  next hright => rw [shift_right (not_le.mp hright)]

/-- A saturating operation indicates exactly the left shifts that do not fit. -/
theorem shift_saturates_indicates (x sh : Int) (w : Nat) (u round : Bool) :
    (shift x sh w u round true).2 = true ↔ 0 ≤ sh ∧ Overflows w u (shifted round x sh) := by
  rcases lt_or_ge sh 0 with hright | hleft
  · simp [shift_right hright, not_le.mpr hright]
  · rw [shift_left_saturates hleft, sat_indicates, and_iff_right hleft]

/-! ## The shift operations -/

section
variable {s : State} {e : Mask} (he : eciExecMask s.eci = some e) (round : Bool) (w : Width) (u : Bool) (d n : QReg)
  (src : Operand2)
include he

/-- A wrapping shift with a legal ECI: every lane is its exact shift, and STATUS stays. -/
theorem shiftOp_wraps_spec :
    ∃ t, shiftOp round false w u d n src s = .next t ∧ WritesOnlyQ s t d e ∧ t.status = s.status ∧
      LanesMerged s t d (s.resolve e) w.bits fun k =>
        trunc w.bits (shifted round (intOf u (s.lane n k w.bits)) (s.shiftAmount src k w.bits)) := by
  obtain ⟨t, hnext, hframe, hstatus, hlanes⟩ := laneEffects_plain he d w.bits w.bits_mod
    (fun k => shift (intOf u (s.lane n k w.bits)) (s.shiftAmount src k w.bits) w.bits u round false)
    fun _ => shift_wraps _ _ _ _ _
  refine ⟨t, hnext, hframe, hstatus, ?_⟩
  simpa only [shift_wraps_eq] using hlanes

/-- A saturating shift with a legal ECI: the lanes shifted left are clamped, and QC latches the active ones of them
that did not fit. -/
theorem shiftOp_saturates_spec :
    ∃ t, shiftOp round true w u d n src s = .next t ∧ WritesOnlyQ s t d e ∧
      LatchesQC s t (∃ k, k < lanes w.bits ∧ active (s.resolve e) k w.bits = true ∧
        0 ≤ s.shiftAmount src k w.bits ∧
        Overflows w.bits u (shifted round (intOf u (s.lane n k w.bits)) (s.shiftAmount src k w.bits))) ∧
      LanesMerged s t d (s.resolve e) w.bits fun k => trunc w.bits
        (if 0 ≤ s.shiftAmount src k w.bits then
          clamp w.bits u (shifted round (intOf u (s.lane n k w.bits)) (s.shiftAmount src k w.bits))
        else shifted round (intOf u (s.lane n k w.bits)) (s.shiftAmount src k w.bits)) := by
  obtain ⟨t, hnext, hframe, hlanes, hqc⟩ := laneEffects_spec he d w fun k =>
    shift (intOf u (s.lane n k w.bits)) (s.shiftAmount src k w.bits) w.bits u round true
  simp only [shift_saturates_value, shift_saturates_indicates] at hlanes hqc
  exact ⟨t, hnext, hframe, hqc, hlanes⟩

end

/-! ## The product of two lanes -/

/-- An exact value that fits in w bits is read back from its w-bit pattern (00_scope.md R12). -/
theorem intOf_trunc_of_fits {w : Nat} (hw : 0 < w) {u : Bool} {v : Int} (hlow : satLow w u ≤ v)
    (hhigh : v ≤ satHigh w u) : intOf u (trunc w v) = v := by
  cases u
  case false => exact BitVec.toInt_ofInt_eq_self hw hlow (Int.lt_of_le_sub_one hhigh)
  case true =>
    have hmod : v % (2 ^ w : Nat) = v :=
      Int.emod_eq_of_lt hlow (by rw [Nat.cast_pow, Nat.cast_ofNat]; exact Int.lt_of_le_sub_one hhigh)
    change ((BitVec.ofInt w v).toNat : Int) = v
    rw [BitVec.toNat_ofInt, hmod, Int.toNat_of_nonneg hlow]

/-- The product of two w-bit values is not below the range of 2w bits. -/
theorem satLow_le_mul {w : Nat} (u : Bool) (x y : BitVec w) : satLow (2 * w) u ≤ intOf u x * intOf u y := by
  cases u
  case false =>
    have hpow : (2 : Int) ^ (w * 2 - 2) ≤ 2 ^ (2 * w - 1) := pow_le_pow_right₀ (by decide) (by omega)
    calc -(2 : Int) ^ (2 * w - 1) ≤ -2 ^ (w * 2 - 2) := neg_le_neg hpow
      _ ≤ x.toInt * y.toInt := BitVec.le_toInt_mul_toInt
  case true => exact mul_nonneg (Int.natCast_nonneg x.toNat) (Int.natCast_nonneg y.toNat)

/-- The product of two w-bit values is not above the range of 2w bits; for the signed ones the largest product,
2^(2w-2) of the two lowest values, needs w to be positive. -/
theorem mul_le_satHigh {w : Nat} (hw : 0 < w) (u : Bool) (x y : BitVec w) :
    intOf u x * intOf u y ≤ satHigh (2 * w) u := by
  cases u
  case false =>
    have hpow : (2 : Int) ^ (w * 2 - 2) < 2 ^ (2 * w - 1) := pow_lt_pow_right₀ (by decide) (by omega)
    exact Int.le_sub_one_of_lt (BitVec.toInt_mul_toInt_le.trans_lt hpow)
  case true =>
    have hlt : x.toNat * y.toNat < 2 ^ (w * 2) := BitVec.toNat_mul_toNat_lt
    rw [mul_comm w 2] at hlt
    have hcast : (x.toNat : Int) * y.toNat < 2 ^ (2 * w) := by exact_mod_cast hlt
    exact Int.le_sub_one_of_lt hcast

/-- The product of two w-bit values is exact in 2w bits (43_shift_mul.md R175). -/
theorem intOf_trunc_mul {w : Nat} (hw : 0 < w) (u : Bool) (x y : BitVec w) :
    intOf u (trunc (2 * w) (intOf u x * intOf u y)) = intOf u x * intOf u y :=
  intOf_trunc_of_fits (Nat.mul_pos Nat.two_pos hw) (satLow_le_mul u x y) (mul_le_satHigh hw u x y)

/-- Every width SIZE selects is positive. -/
theorem Width.bits_pos (w : Width) : 0 < w.bits := by cases w <;> decide

/-! ## The doubling multiplies -/

/-- Rounding or not, DMulH is Sat of the floored quotient (43_shift_mul.md R178). -/
theorem doublingMulHighLane_eq (round : Bool) (w : Nat) (u : Bool) (a b : Int) :
    doublingMulHighLane round w u a b = sat ((2 * a * b + if round then 2 ^ (w - 1) else 0) / 2 ^ w) w false := by
  rw [doublingMulHighLane, Int.shiftRight_eq_div_pow, Nat.cast_pow, Nat.cast_ofNat]

/-- The lane function that is Sat of an exact value, at the signedness of the form (00_scope.md R13). -/
def satLane (value : Nat → Int → Int → Int) (w : Nat) (u : Bool) (a b : Int) : Int × Bool := sat (value w a b) w u

/-- A lane-local operation reads its lane function at its own width and signedness only. -/
theorem laneOp_congr {f g : Nat → Bool → Int → Int → Int × Bool} {w : Width} {u : Bool}
    (hfg : ∀ a b, f w.bits u a b = g w.bits u a b) (d n : QReg) (src : Operand2) (s : State) :
    laneOp f w u d n src s = laneOp g w u d n src s := by
  simp only [laneOp, hfg]

/-- The signed forms of DMulH are Sat of its exact value: R178 clamps to the signed range. -/
theorem formsRun_satLane_of_doubling {forms : QReg → QReg → QReg → List (Instr × Width × Bool × Operand2)}
    {round : Bool} {value : Nat → Int → Int → Int} (hop : FormsRun forms (doublingMulHighLane round))
    (hsigned : ∀ {d n m i w u src}, (i, w, u, src) ∈ forms d n m → u = false)
    (hvalue : ∀ w a b, (2 * a * b + if round then 2 ^ (w - 1) else 0) / 2 ^ w = value w a b) :
    FormsRun forms (satLane value) := by
  intro d n m i w u src hf s
  have hlane : ∀ a b, doublingMulHighLane round w.bits u a b = satLane value w.bits u a b := fun a b => by
    rw [doublingMulHighLane_eq, hvalue, hsigned hf, satLane]
  exact (hop hf s).trans (laneOp_congr hlane d n src s)

/-! ## The operation each form is -/

section
variable {d n m : QReg} {i : Instr} {w : Width} {u : Bool} {src : Operand2}

/-- Every form of VQSHL is a shift that saturates (43_shift_mul.md R173). -/
theorem exec_vqshlForms (hf : (i, w, u, src) ∈ vqshlForms d n m) (s : State) :
    exec i s = shiftOp false true w u d n src s := by
  fin_cases hf <;> rfl

/-- Every form of VQRSHL is a rounding shift that saturates (43_shift_mul.md R174). -/
theorem exec_vqrshlForms (hf : (i, w, u, src) ∈ vqrshlForms d n m) (s : State) :
    exec i s = shiftOp true true w u d n src s := by
  fin_cases hf <;> rfl

/-- Every form of VQDMULH is DMulH without rounding (43_shift_mul.md R179). -/
theorem exec_vqdmulhForms (hf : (i, w, u, src) ∈ vqdmulhForms d n m) (s : State) :
    exec i s = laneOp (doublingMulHighLane false) w u d n src s := by
  fin_cases hf <;> rfl

/-- Every form of VQRDMULH is DMulH with rounding (43_shift_mul.md R180). -/
theorem exec_vqrdmulhForms (hf : (i, w, u, src) ∈ vqrdmulhForms d n m) (s : State) :
    exec i s = laneOp (doublingMulHighLane true) w u d n src s := by
  fin_cases hf <;> rfl

/-- No form of VQDMULH is unsigned (30_encoding.md R90). -/
theorem signed_of_vqdmulhForms (hf : (i, w, u, src) ∈ vqdmulhForms d n m) : u = false := by
  fin_cases hf <;> rfl

/-- No form of VQRDMULH is unsigned (30_encoding.md R90). -/
theorem signed_of_vqrdmulhForms (hf : (i, w, u, src) ∈ vqrdmulhForms d n m) : u = false := by
  fin_cases hf <;> rfl

end

/-! ## The statements -/

/-- Settles O31: both families are the wrapping shift, plain or rounding. -/
theorem wrappingShiftsByRegister : Obligations.WrappingShiftsByRegister := by
  intro s e d n m he i w u src round hi
  have hop : exec i s = shiftOp round false w u d n src s := by
    rcases hi with ⟨hf, rfl⟩ | ⟨hf, rfl⟩
    · exact exec_vshlForms hf s
    · exact exec_vrshlForms hf s
  rw [hop]
  exact shiftOp_wraps_spec he round w u d n src

/-- Settles O32: both families are the saturating shift, plain or rounding. -/
theorem saturatingShiftsByRegister : Obligations.SaturatingShiftsByRegister := by
  intro s e d n m he i w u src round hi amount exactShift
  have hop : exec i s = shiftOp round true w u d n src s := by
    rcases hi with ⟨hf, rfl⟩ | ⟨hf, rfl⟩
    · exact exec_vqshlForms hf s
    · exact exec_vqrshlForms hf s
  rw [hop]
  exact shiftOp_saturates_spec he round w u d n src

/-- Settles O33: both families are the widening multiply, whose lanes never saturate and whose products fit. -/
theorem wideningMultiplyIsExact : Obligations.WideningMultiplyIsExact := by
  intro s e d n m he i w u src top hi product
  have hop : exec i s = widenMulOp top w u d n m s := by
    rcases hi with ⟨hf, rfl⟩ | ⟨hf, rfl⟩
    · exact exec_vmullbForms hf s
    · exact exec_vmulltForms hf s
  have hbytes : 2 * w.bits % 8 = 0 := by have := w.bits_mod; omega
  rw [hop]
  exact ⟨fun k => intOf_trunc_mul w.bits_pos u _ _, laneEffects_plain he d (2 * w.bits) hbytes _ fun _ => rfl⟩

/-- Settles O34: both families are Sat of the doubled product's high half, biased or not. -/
theorem doublingMultiplyHighSaturates : Obligations.DoublingMultiplyHighSaturates := by
  constructor
  · have hrun : FormsRun vqdmulhForms (satLane fun w a b => 2 * a * b / 2 ^ w) :=
      formsRun_satLane_of_doubling (forms := vqdmulhForms) exec_vqdmulhForms signed_of_vqdmulhForms
        fun w a b => congrArg (· / 2 ^ w) (add_zero (2 * a * b))
    exact saturatesLanes_of_laneOp hrun fun _ _ _ _ => rfl
  · have hrun : FormsRun vqrdmulhForms (satLane fun w a b => (2 * a * b + 2 ^ (w - 1)) / 2 ^ w) :=
      formsRun_satLane_of_doubling (forms := vqrdmulhForms) exec_vqrdmulhForms signed_of_vqrdmulhForms
        fun _ _ _ => rfl
    exact saturatesLanes_of_laneOp hrun fun _ _ _ _ => rfl

end Sys2Proof.Machine
end

section
/-! SUPPORT. What the lane-pair operations compute in one lane, what an operation that produces only some lanes writes,
and the carry chain as a sequence of carries and as one addition of whole registers, and from them the statements of
44_pair_carry.md. -/

namespace Sys2Proof.Machine

/-! ## The complex rotate-add -/

/-- The sign of the rotation: 90 degrees subtracts in the even lanes and adds in the odd ones, 270 degrees the reverse
(44_pair_carry.md R191, R192). -/
def rotateSign (by90 : Bool) : Int := if by90 then 1 else -1

/-- Both rotations in one formula: the sign chooses (44_pair_carry.md R191, R192). -/
theorem rotateAddLane_value (by90 : Bool) (a b : Nat → Int) (k : Nat) :
    (rotateAddLane by90 a b k).1 =
      if k % 2 = 0 then a k - rotateSign by90 * b (k + 1) else a k + rotateSign by90 * b (k - 1) := by
  unfold rotateAddLane
  cases by90 with
  | true => split <;> simp [rotateSign]
  | false => split <;> simp [rotateSign, sub_eq_add_neg]

/-- A complex rotate-add with a legal ECI: every lane wraps, and STATUS stays (44_pair_carry.md R190). -/
theorem rotateAddOp_spec {s : State} {e : Mask} (he : eciExecMask s.eci = some e) (by90 : Bool) (w : Width)
    (d n m : QReg) :
    ∃ t, rotateAddOp by90 w d n m s = .next t ∧ WritesOnlyQ s t d e ∧ t.status = s.status ∧
      LanesMerged s t d (s.resolve e) w.bits fun k => trunc w.bits
        (if k % 2 = 0 then (s.lane n k w.bits).toInt - rotateSign by90 * (s.lane m (k + 1) w.bits).toInt
          else (s.lane n k w.bits).toInt + rotateSign by90 * (s.lane m (k - 1) w.bits).toInt) := by
  obtain ⟨t, hnext, hframe, hstatus, hlanes⟩ := laneEffects_plain he d w.bits w.bits_mod
    (rotateAddLane by90 (fun k => (s.lane n k w.bits).toInt) fun k => (s.lane m k w.bits).toInt)
    (rotateAddLane_wraps by90 _ _)
  simp only [rotateAddLane_value] at hlanes
  exact ⟨t, hnext, hframe, hstatus, hlanes⟩

/-- Settles O35: both rotations are the rotate-add, with the sign of the angle. -/
theorem complexRotateAdd : Obligations.ComplexRotateAdd := by
  intro s e d n m he i w u src sign hi
  rcases hi with ⟨hf, rfl⟩ | ⟨hf, rfl⟩
  · rw [exec_vcadd90Forms hf]
    exact rotateAddOp_spec he true w d n m
  · rw [exec_vcadd270Forms hf]
    exact rotateAddOp_spec he false w d n m

/-! ## Operations that produce some of the lanes -/

/-- The byte of bit j of lane k is selected exactly where lane k is (44_pair_carry.md R194). -/
theorem getLsbD_laneBytes_lane {w : Width} (made : Nat → Bool) {k j : Nat} (hk : k < lanes w.bits) (hj : j < w.bits) :
    (laneBytes w.bits made).getLsbD (k * (w.bits / 8) + j / 8) = made k := by
  have hbyte : k * (w.bits / 8) + j / 8 < 16 := by
    cases w <;> simp only [Width.bits, lanes] at hk hj ⊢ <;> omega
  have hown : ∀ l, l * (w.bits / 8) ≤ k * (w.bits / 8) + j / 8 ∧
      k * (w.bits / 8) + j / 8 < l * (w.bits / 8) + w.bits / 8 ↔ l = k := by
    intro l
    cases w <;> simp only [Width.bits] at hj ⊢ <;> omega
  simp only [getLsbD_laneBytes, hown, hbyte, true_and]
  rw [Bool.eq_iff_iff, decide_eq_true_iff]
  constructor
  · rintro ⟨l, -, hmade, rfl⟩
    exact hmade
  · exact fun hmade => ⟨k, hk, hmade, rfl⟩

/-- Under M AND WSEL a produced lane is active where M has it, and no other lane is. -/
theorem active_and_laneBytes {w : Width} (made : Nat → Bool) (m : Mask) {k : Nat} (hk : k < lanes w.bits) :
    active (m &&& laneBytes w.bits made) k w.bits = (active m k w.bits && made k) := by
  have hlowest : k * w.bits / 8 = k * (w.bits / 8) + 0 / 8 := by
    cases w <;> simp only [Width.bits] <;> omega
  simp only [active, BitVec.getLsbD_and]
  rw [hlowest, getLsbD_laneBytes_lane made hk w.bits_pos]

/-- Under M AND WSEL a produced lane is merged under M, and any other keeps its old value (40_predication.md R125). -/
theorem mergeLane_and_laneBytes {w : Width} (made : Nat → Bool) (m : Mask) {k : Nat} (hk : k < lanes w.bits)
    (old new : BitVec w.bits) :
    mergeLane (m &&& laneBytes w.bits made) k w.bits old new =
      if made k then mergeLane m k w.bits old new else old := by
  apply BitVec.eq_of_getLsbD_eq
  intro j hj
  rw [getLsbD_mergeLane w.bits_mod _ _ _ _ _ hj, BitVec.getLsbD_and, getLsbD_laneBytes_lane made hk hj]
  cases made k with
  | true => simp [getLsbD_mergeLane w.bits_mod _ _ _ _ _ hj]
  | false => simp

/-- An operation that produces some lanes of width w: the frame, the produced lanes merged under M, the others as they
were, and QC set exactly when it was or a produced lane with an indicator is active (40_predication.md R119, R125). -/
theorem someLaneEffects_spec {s : State} {e : Mask} (he : eciExecMask s.eci = some e) (d : QReg) (w : Width)
    (made : Nat → Bool) (f : Nat → Int × Bool) :
    ∃ t, vectorOp d (fun _ => someLaneEffects w.bits made f) s = .next t ∧ WritesOnlyQ s t d e ∧
      LatchesQC s t (∃ k, k < lanes w.bits ∧ made k = true ∧ active (s.resolve e) k w.bits = true ∧ (f k).2 = true) ∧
      ∀ k, k < lanes w.bits → elem t.q[d] k w.bits =
        if made k then mergeLane (s.resolve e) k w.bits (elem s.q[d] k w.bits) (trunc w.bits (f k).1)
        else elem s.q[d] k w.bits := by
  obtain ⟨t, hnext, hframe, hq, hstatus⟩ := vectorOp_spec he d fun _ => someLaneEffects w.bits made f
  refine ⟨t, hnext, hframe, ⟨?_, ?_⟩, ?_⟩
  · intro b hb
    rw [hstatus, getLsbD_statusAfter_none rfl]
    simp [hb]
  · have hmeets : (((someLaneEffects w.bits made f).sat &&&
        (s.resolve e &&& (someLaneEffects w.bits made f).wsel)) != 0) = true ↔
        ∃ k, k < lanes w.bits ∧ made k = true ∧ active (s.resolve e) k w.bits = true ∧ (f k).2 = true := by
      simp only [someLaneEffects, laneBits_meets, Bool.and_eq_true]
      refine exists_congr fun k => and_congr_right fun hk => ?_
      rw [active_and_laneBytes made _ hk, Bool.and_eq_true]
      tauto
    rw [hstatus, statusAfter_none rfl, statusQC_latchQC, Bool.or_eq_true, hmeets]
  · intro k hk
    rw [hq, elem_merge_of_bytes w.bits_mod _ _ _ _ (lane_fits hk)]
    simp only [someLaneEffects, mergeLane_and_laneBytes made _ hk, elem_ofLanes _ _ _ hk]

/-! ## The dual-high family -/

/-- The exact value of lane k before saturation, floor((2(ab ± cd) + bias) / 2^w), with the lanes a, b, c and d of R194
(44_pair_carry.md R193, R194). -/
def dualHighExact (exchange sub round : Bool) (w : Nat) (a b : Nat → Int) (k : Nat) : Int :=
  let first := if exchange then a k * b (k - 1) else a k * b k
  let second := if exchange then a (k - 1) * b k else a (k + 1) * b (k + 1)
  (2 * (if sub then first - second else first + second) + if round then 2 ^ (w - 1) else 0) / 2 ^ w

/-- A lane of the dual-high family is Sat of its exact value, at the signed range (44_pair_carry.md R193). -/
theorem dualHighLane_eq (exchange sub round : Bool) (w : Nat) (a b : Nat → Int) (k : Nat) :
    dualHighLane exchange sub round w a b k = sat (dualHighExact exchange sub round w a b k) w false := by
  cases exchange <;>
    simp only [dualHighLane, dualHigh, dualHighExact, Int.shiftRight_eq_div_pow, Nat.cast_pow, Nat.cast_ofNat,
      if_true, if_false, Bool.false_eq_true]

/-- Every form of the dual-high family is the operation of its three flags (44_pair_carry.md R195 to R202). -/
theorem exec_dualHighForms {d n m : QReg} {i : Instr} {w : Width} {exchange sub round : Bool}
    (hf : (i, w, exchange, sub, round) ∈ dualHighForms d n m) (s : State) :
    exec i s = dualHighOp exchange sub round w d n m s := by
  fin_cases hf <;> rfl

/-- Settles O36: the family produces alternate lanes, each Sat of its exact value. -/
theorem dualMultiplyHighWritesAlternateLanes : Obligations.DualMultiplyHighWritesAlternateLanes := by
  intro s e d n m he i w exchange sub round hf a b first second half exactValue made
  obtain ⟨t, hnext, hframe, hqc, hlanes⟩ := someLaneEffects_spec he d w
    (fun k => k % 2 == if exchange then 1 else 0) (dualHighLane exchange sub round w.bits a b)
  simp only [dualHighLane_eq, sat_eq_clamp, sat_indicates, beq_iff_eq] at hqc hlanes
  exact ⟨t, (exec_dualHighForms hf s).trans hnext, hframe, hqc,
    fun k hk hmade => (hlanes k hk).trans (if_pos hmade), fun k hk hmade => (hlanes k hk).trans (if_neg hmade)⟩

/-! ## The carry chain -/

/-- The sum of lane k with a carry-in (44_pair_carry.md R203). -/
def carrySum (a b : QWord) (inv : Word) (k : Nat) (cin : Bool) : Nat :=
  cin.toNat + (elem a k 32).toNat + (elem b k 32 ^^^ inv).toNat

/-- The carry that reaches lane k: captured from lane k - 1 where that lane is active (44_pair_carry.md R203). -/
def carryInto (mask : Mask) (a b : QWord) (inv : Word) (cin : Bool) : Nat → Bool
  | 0 => cin
  | k + 1 =>
    let carry := carryInto mask a b inv cin k
    if active mask k 32 then carrySum a b inv k carry >>> 32 != 0 else carry

/-- The carry out of a sum is set exactly when the sum does not fit in 32 bits. -/
theorem carryOut_eq (x : Nat) : (x >>> 32 != 0) = decide (2 ^ 32 ≤ x) := by
  rw [Bool.eq_iff_iff, bne_iff_ne, decide_eq_true_iff, Nat.shiftRight_eq_div_pow]
  omega

/-- The loop over lanes k to k + count - 1, entered with the carry that reaches lane k, ends with the carry that reaches
lane k + count; it sets those lanes to their sums and leaves the others. -/
theorem carryLanes_range' (mask : Mask) (a b : QWord) (inv : Word) (cin : Bool) (count k : Nat) (r : QWord) :
    (carryLanes mask a b inv (List.range' k count) (carryInto mask a b inv cin k) r).2 =
        carryInto mask a b inv cin (k + count) ∧
      ∀ l, l < lanes 32 →
        elem (carryLanes mask a b inv (List.range' k count) (carryInto mask a b inv cin k) r).1 l 32 =
          if k ≤ l ∧ l < k + count then BitVec.ofNat 32 (carrySum a b inv l (carryInto mask a b inv cin l))
          else elem r l 32 := by
  induction count generalizing k r with
  | zero =>
    refine ⟨rfl, fun l _ => ?_⟩
    rw [if_neg (by omega)]
    rfl
  | succ count ih =>
    obtain ⟨hcarry, hlanes⟩ := ih (k + 1)
      (setElem r k 32 (BitVec.ofNat 32 (carrySum a b inv k (carryInto mask a b inv cin k))))
    refine ⟨?_, fun l hl => ?_⟩
    · exact hcarry.trans (congrArg _ (Nat.add_right_comm k 1 count))
    · refine (hlanes l hl).trans ?_
      rcases Nat.lt_trichotomy l k with hlt | rfl | hgt
      · rw [if_neg (by omega), if_neg (by omega), elem_setElem_other _ _ hlt.ne (lane_fits hl)]
      · rw [if_neg (by omega), if_pos (by omega), elem_setElem_self _ _ _ _ (lane_fits hl)]
      · by_cases hin : l < k + (count + 1)
        · rw [if_pos (by omega), if_pos (by omega)]
        · rw [if_neg (by omega), if_neg (by omega), elem_setElem_other _ _ hgt.ne' (lane_fits hl)]

/-- CarryChain ends with the carry out of lane 3. -/
theorem carryChain_carry (mask : Mask) (a b : QWord) (inv : Word) (cin : Bool) :
    (carryChain mask a b inv cin).2 = carryInto mask a b inv cin 4 :=
  (carryLanes_range' mask a b inv cin 4 0 0).1

/-- Every lane of CarryChain's result is the low 32 bits of its sum. -/
theorem elem_carryChain (mask : Mask) (a b : QWord) (inv : Word) (cin : Bool) {k : Nat} (hk : k < 4) :
    elem (carryChain mask a b inv cin).1 k 32 =
      BitVec.ofNat 32 (carrySum a b inv k (carryInto mask a b inv cin k)) :=
  ((carryLanes_range' mask a b inv cin 4 0 0).2 k hk).trans (if_pos ⟨Nat.zero_le k, by omega⟩)

/-- The carries of CarryChain and its lanes are linked (44_pair_carry.md R203). -/
theorem carryLink_carryChain (mask : Mask) (a b : QWord) (inv : Word) (cin : Bool) {k : Nat} (hk : k < 4) :
    CarryLink mask a b inv k (carryInto mask a b inv cin k) (carryInto mask a b inv cin (k + 1))
      (elem (carryChain mask a b inv cin).1 k 32) :=
  ⟨elem_carryChain mask a b inv cin hk, by rw [carryInto, carryOut_eq]; rfl⟩

/-- STATUS after `flagWrite` is a flag write. -/
theorem writesFlags_of_flagWrite {s t : State} {c : Bool} (h : t.status = flagWrite c s.status) : WritesFlags s t c := by
  have hhigh : ∀ b, 28 ≤ b → t.status.getLsbD b = (c && decide (b = 29)) := fun b hb => by
    rw [h, getLsbD_flagWrite, if_neg (Nat.not_lt.mpr hb)]
  have hclear : ∀ b, 28 ≤ b → b ≠ 29 → t.status.getLsbD b = false := fun b hb hne => by
    rw [hhigh b hb, decide_eq_false hne, Bool.and_false]
  refine ⟨?_, hclear 31 (by decide) (by decide), hclear 30 (by decide) (by decide),
    hclear 28 (by decide) (by decide), fun b hb => ?_⟩
  · exact (hhigh 29 (by decide)).trans (Bool.and_true c)
  · rw [h, getLsbD_flagWrite, if_pos hb]

/-- A carry operation with a legal ECI: the frame, Q[d] and STATUS (44_pair_carry.md R203, R204). -/
theorem carryOp_spec {s : State} {e : Mask} (he : eciExecMask s.eci = some e) (cin : Bool) (inv : Word) (always : Bool)
    (d n m : QReg) :
    ∃ t, carryOp cin inv always d n m s = .next t ∧ WritesOnlyQ s t d e ∧
      t.q[d] = merge s.q[d] (carryChain (s.resolve e) s.q[n] s.q[m] inv cin).1 (s.resolve e) ∧
      t.status = if always = true ∨ s.resolve e &&& 0x1111#16 ≠ 0 then
        flagWrite (carryChain (s.resolve e) s.q[n] s.q[m] inv cin).2 s.status else s.status := by
  obtain ⟨t, hnext, hframe, hq, hstatus⟩ := vectorOp_spec he d fun mask =>
    { r := (carryChain mask s.q[n] s.q[m] inv cin).1
      carry := if always || (mask &&& 0x1111#16) != 0 then some (carryChain mask s.q[n] s.q[m] inv cin).2 else none }
  refine ⟨t, hnext, hframe, hq.trans (congrArg _ (and_fullMask _)), ?_⟩
  simp only [Bool.or_eq_true, bne_iff_ne] at hstatus
  rw [hstatus]
  split
  · exact statusAfter_carry rfl rfl s.status
  · exact statusAfter_plain rfl rfl s.status

/-- A carry operation with a legal ECI chains its carries (44_pair_carry.md R203, R204). -/
theorem chainsCarries_of_carryOp {s : State} {e : Mask} (he : eciExecMask s.eci = some e) {i : Instr} {d n m : QReg}
    {cin : Bool} {inv : Word} {always : Bool} {alwaysWrites : Prop} (hop : exec i s = carryOp cin inv always d n m s)
    (halways : always = true ↔ alwaysWrites) : ChainsCarries s i d n m e cin inv alwaysWrites := by
  obtain ⟨t, hnext, hframe, hq, hstatus⟩ := carryOp_spec he cin inv always d n m
  obtain rfl : (always = true) = alwaysWrites := propext halways
  refine ⟨t, hop.trans hnext, hframe, carryInto (s.resolve e) s.q[n] s.q[m] inv cin,
    fun k => elem (carryChain (s.resolve e) s.q[n] s.q[m] inv cin).1 k 32, rfl,
    fun k hk => carryLink_carryChain _ _ _ _ _ hk, fun k hk => ?_, fun hflags => ?_, fun hflags => ?_⟩
  · rw [hq, elem_merge_of_bytes (by decide) _ _ _ _ (lane_fits hk)]
  · rw [if_pos hflags, carryChain_carry] at hstatus
    exact writesFlags_of_flagWrite hstatus
  · rwa [if_neg hflags] at hstatus

/-- Settles O37: the four operations are the carry operation, from their carry-in and inversion. -/
theorem carryChainThreadsActiveLanes : Obligations.CarryChainThreadsActiveLanes :=
  fun _ _ _ _ _ he =>
    ⟨chainsCarries_of_carryOp he rfl (iff_of_false Bool.false_ne_true id),
      chainsCarries_of_carryOp he rfl (iff_of_true rfl trivial),
      chainsCarries_of_carryOp he rfl (iff_of_false Bool.false_ne_true id),
      chainsCarries_of_carryOp he rfl (iff_of_true rfl trivial)⟩

/-! ## The carry chain as one addition -/

/-- The low k + 1 words of a register are the low k words and word k. -/
theorem toNat_mod_words_succ (v : QWord) (k : Nat) :
    v.toNat % 2 ^ (32 * (k + 1)) = v.toNat % 2 ^ (32 * k) + 2 ^ (32 * k) * (elem v k 32).toNat := by
  rw [elem, BitVec.extractLsb'_toNat, Nat.shiftRight_eq_div_pow, Nat.mul_succ, Nat.pow_add, Nat.mod_mul]

/-- A link of an active lane adds with carry: its word and its carry out make up the sum. -/
theorem CarryLink.adds {mask : Mask} {a b : QWord} {inv : Word} {k : Nat} {cin cout : Bool} {r : Word}
    (h : CarryLink mask a b inv k cin cout r) (hk : active mask k 32 = true) :
    r.toNat + 2 ^ 32 * cout.toNat = cin.toNat + (elem a k 32).toNat + (elem b k 32 ^^^ inv).toNat := by
  obtain ⟨hr, hcout⟩ := h
  rw [if_pos hk] at hcout
  have hcin := cin.toNat_le
  have ha := (elem a k 32).isLt
  have hb := (elem b k 32 ^^^ inv).isLt
  rw [hr, hcout, BitVec.toNat_ofNat]
  by_cases hsum : 2 ^ 32 ≤ cin.toNat + (elem a k 32).toNat + (elem b k 32 ^^^ inv).toNat
  · rw [decide_eq_true hsum, Bool.toNat_true]
    omega
  · rw [decide_eq_false hsum, Bool.toNat_false]
    omega

/-- Linked active lanes add the first k words of two registers: the words of the sum and the carry into lane k. The
second register is the one whose words the chain adds, inverted already. -/
theorem lowWords_of_links {mask : Mask} {a b b' v : QWord} {inv : Word} {c : Nat → Bool}
    (hactive : ∀ k, k < 4 → active mask k 32 = true)
    (hinv : ∀ k, k < 4 → elem b k 32 ^^^ inv = elem b' k 32)
    (hlinks : ∀ k, k < 4 → CarryLink mask a b inv k (c k) (c (k + 1)) (elem v k 32)) :
    ∀ k, k ≤ 4 → v.toNat % 2 ^ (32 * k) + 2 ^ (32 * k) * (c k).toNat =
      (c 0).toNat + a.toNat % 2 ^ (32 * k) + b'.toNat % 2 ^ (32 * k) := by
  intro k hk
  induction k with
  | zero => simp [Nat.mod_one]
  | succ k ih =>
    have hlow := ih (by omega)
    have hword := (hlinks k hk).adds (hactive k hk)
    rw [hinv k hk] at hword
    simp only [toNat_mod_words_succ]
    calc v.toNat % 2 ^ (32 * k) + 2 ^ (32 * k) * (elem v k 32).toNat + 2 ^ (32 * (k + 1)) * (c (k + 1)).toNat
        = v.toNat % 2 ^ (32 * k) + 2 ^ (32 * k) * ((elem v k 32).toNat + 2 ^ 32 * (c (k + 1)).toNat) := by ring
      _ = v.toNat % 2 ^ (32 * k) + 2 ^ (32 * k) * (c k).toNat +
            2 ^ (32 * k) * ((elem a k 32).toNat + (elem b' k 32).toNat) := by rw [hword]; ring
      _ = (c 0).toNat + (a.toNat % 2 ^ (32 * k) + 2 ^ (32 * k) * (elem a k 32).toNat) +
            (b'.toNat % 2 ^ (32 * k) + 2 ^ (32 * k) * (elem b' k 32).toNat) := by rw [hlow]; ring

/-- With every lane active a carry operation adds 128-bit numbers: Q[d], with C above it, is the sum
(44_pair_carry.md R203). -/
theorem chainsCarries_adds {s : State} {i : Instr} {d n m : QReg} {e : Mask} {cin : Bool} {inv : Word} {always : Prop}
    {b : QWord} (h : ChainsCarries s i d n m e cin inv always) (hfull : s.resolve e = 0xFFFF#16)
    (hinv : ∀ k, k < 4 → elem s.q[m] k 32 ^^^ inv = elem b k 32) :
    ∃ t, exec i s = .next t ∧
      t.q[d].toNat + 2 ^ 128 * (statusC t.status).toNat = cin.toNat + s.q[n].toNat + b.toNat := by
  obtain ⟨t, hnext, -, c, r, hcin, hlinks, hlanes, hflags, -⟩ := h
  rw [hfull] at hlinks hlanes hflags
  have hword : ∀ k, k < 4 → elem t.q[d] k 32 = r k := fun k hk =>
    (hlanes k hk).trans (mergeLane_fullMask (w := .w32) hk _ _)
  obtain ⟨hc, -⟩ := hflags (.inr (by decide))
  have hsum := lowWords_of_links (fun k hk => active_fullMask (w := .w32) hk) hinv
    (fun k hk => (hword k hk).symm ▸ hlinks k hk) 4 (Nat.le_refl 4)
  rw [hcin, ← hc] at hsum
  simp only [Nat.reduceMul, Nat.mod_eq_of_lt (BitVec.isLt _)] at hsum
  exact ⟨t, hnext, hsum⟩

/-- The words of a register inverted are the words of its complement. -/
theorem elem_xor_ones (v : QWord) {k : Nat} (hk : k < 4) : elem v k 32 ^^^ 0xFFFFFFFF#32 = elem (~~~v) k 32 := by
  have hones : (0xFFFFFFFF#32 : Word) = BitVec.allOnes 32 := rfl
  rw [hones, BitVec.xor_allOnes]
  apply BitVec.eq_of_getLsbD_eq
  intro j hj
  have hbit : 32 * k + j < 128 := by omega
  simp only [BitVec.getLsbD_not, getLsbD_elem, hj, hbit, decide_true, Bool.true_and]

/-- A number below N and a carry of weight N are determined by their sum. -/
theorem eq_mod_of_add_carry {x y N : Nat} {c : Bool} (hx : x < N) (h : x + N * c.toNat = y) :
    x = y % N ∧ c = decide (N ≤ y) := by
  subst h
  cases c with
  | false => simp [Nat.mod_eq_of_lt hx, hx]
  | true => simp [Nat.mod_eq_of_lt hx]

/-- With every lane active an operation that does not invert adds mod 2^128, and C is the carry out of bit 127
(44_pair_carry.md R205, R206). -/
theorem chainsCarries_adds_mod {s : State} {i : Instr} {d n m : QReg} {e : Mask} {cin : Bool} {always : Prop}
    (h : ChainsCarries s i d n m e cin 0#32 always) (hfull : s.resolve e = 0xFFFF#16) :
    ∃ t, exec i s = .next t ∧ t.q[d].toNat = (s.q[n].toNat + s.q[m].toNat + cin.toNat) % 2 ^ 128 ∧
      statusC t.status = decide (2 ^ 128 ≤ s.q[n].toNat + s.q[m].toNat + cin.toNat) := by
  obtain ⟨t, hnext, hsum⟩ := chainsCarries_adds h hfull fun k _ => BitVec.xor_zero
  rw [add_assoc, add_comm cin.toNat] at hsum
  exact ⟨t, hnext, eq_mod_of_add_carry t.q[d].isLt hsum⟩

/-- With every lane active an operation that inverts subtracts mod 2^128, one more where the carry-in is 0, and C is 1
exactly when there is no borrow (44_pair_carry.md R207, R208). -/
theorem chainsCarries_subtracts {s : State} {i : Instr} {d n m : QReg} {e : Mask} {cin : Bool} {always : Prop}
    (h : ChainsCarries s i d n m e cin 0xFFFFFFFF#32 always) (hfull : s.resolve e = 0xFFFF#16) :
    ∃ t, exec i s = .next t ∧ t.q[d] = s.q[n] - s.q[m] - BitVec.ofNat 128 (1 - cin.toNat) ∧
      statusC t.status = decide (s.q[m].toNat + (1 - cin.toNat) ≤ s.q[n].toNat) := by
  obtain ⟨t, hnext, hsum⟩ := chainsCarries_adds (b := ~~~s.q[m]) h hfull fun k hk => elem_xor_ones _ hk
  obtain ⟨hq, hc⟩ := eq_mod_of_add_carry t.q[d].isLt hsum
  have hcin := cin.toNat_le
  have ha := s.q[n].isLt
  have hb := s.q[m].isLt
  rw [BitVec.toNat_not] at hq hc
  refine ⟨t, hnext, BitVec.eq_of_toNat_eq ?_, hc.trans (decide_eq_decide.mpr ?_)⟩
  · rw [hq, BitVec.toNat_sub, BitVec.toNat_sub, BitVec.toNat_ofNat]
    omega
  · omega

/-- Settles O38: each operation chains its carries, and with every lane active the chain is one addition. -/
theorem carryFamilyIsA128BitAdder : Obligations.CarryFamilyIsA128BitAdder := by
  intro s d n m heci hfull a b c
  have he : eciExecMask s.eci = some 0xFFFF#16 := by rw [heci]; rfl
  obtain ⟨hadc, hadci, hsbc, hsbci⟩ := carryChainThreadsActiveLanes s _ d n m he
  refine ⟨?_, chainsCarries_adds_mod hadc hfull, ?_, chainsCarries_subtracts hsbc hfull⟩
  · simpa [a, b] using chainsCarries_adds_mod hadci hfull
  · simpa [a, b] using chainsCarries_subtracts hsbci hfull

end Sys2Proof.Machine
end

section
/-! SUPPORT. A fold over the active lanes as the seed plus a sum over them, what the three reductions leave on RES, and
from them the statements of 45_reduction.md. -/

namespace Sys2Proof.Machine

/-! ## Sums over the active lanes -/

/-- A fold whose step adds a term gives the seed plus the terms of the active lanes (45_reduction.md R210). -/
theorem foldActive_eq_add_activeSum {step : Int → Nat → Int} {term : Nat → Int}
    (hstep : ∀ a k, step a k = a + term k) (mask : Mask) (w : Nat) (acc : Int) :
    foldActive mask w step acc = acc + activeSum mask w term := by
  simp only [foldActive, activeSum, hstep]
  induction lanes w with
  | zero => simp
  | succ count ih =>
    rw [List.range_succ, List.foldl_append, ih, Finset.sum_range_succ]
    simp only [List.foldl_cons, List.foldl_nil]
    split
    · exact add_assoc _ _ _
    · rw [add_zero]

/-- Only the terms of the active lanes reach the sum (45_reduction.md R210). -/
theorem activeSum_congr {mask : Mask} {w : Nat} {f g : Nat → Int}
    (h : ∀ k, k < lanes w → active mask k w = true → f k = g k) : activeSum mask w f = activeSum mask w g := by
  refine Finset.sum_congr rfl fun k hk => ?_
  split
  · next hactive => exact h k (Finset.mem_range.mp hk) hactive
  · rfl

/-! ## What each reduction leaves on RES -/

/-- A lane of a dual accumulate adds its signed product (45_reduction.md R211). -/
theorem dualStep_eq_add_dualTerm (s : State) (n m : QReg) (w : Width) (x : Nat) (sub u : Bool) (a : Int) (k : Nat) :
    dualStep x sub u w.bits s.q[n] s.q[m] a k = a + dualTerm s n m w x sub u k := by
  simp only [dualStep, Bool.and_eq_true, beq_iff_eq]
  by_cases hodd : sub = true ∧ k % 2 = 1
  · rw [if_pos hodd, dualTerm, if_pos hodd, sub_eq_add_neg]
    rfl
  · rw [if_neg hodd, dualTerm, if_neg hodd]
    rfl

section
variable {s : State} {e : Mask} (he : eciExecMask s.eci = some e)

include he

/-- A dual accumulate with a legal ECI: the frame and RES (45_reduction.md R211). -/
theorem dualAccOp_spec (x : Nat) (sub : Bool) (w : Width) (u : Bool) (n m : QReg) :
    ∃ t, dualAccOp x sub w u n m s = .next t ∧ Reduces s t e (trunc 64
      (s.ports.accIn.toNat + activeSum (s.resolve e) w.bits (dualTerm s n m w x sub u))) := by
  have hsum : dualAcc (s.resolve e) x sub u w.bits s.q[n] s.q[m] s.ports.accIn =
      s.ports.accIn.toNat + activeSum (s.resolve e) w.bits (dualTerm s n m w x sub u) :=
    foldActive_eq_add_activeSum (dualStep_eq_add_dualTerm s n m w x sub u) _ _ _
  rw [← hsum]
  exact reduceOp_spec he _

/-- A rounding dual accumulate with a legal ECI: the frame and RES, the bias added in every active lane and the exact
sum divided by 2^8 last (45_reduction.md R216). -/
theorem roundDualAccOp_spec (x : Nat) (sub u : Bool) (n m : QReg) :
    ∃ t, roundDualAccOp x sub u n m s = .next t ∧ Reduces s t e (trunc 64
      ((s.ports.accIn.toNat * 2 ^ 8 +
        activeSum (s.resolve e) 32 (fun k => dualTerm s n m .w32 x sub u k + 2 ^ 7)) / 2 ^ 8)) := by
  have hstep : ∀ a k, dualStep x sub u 32 s.q[n] s.q[m] a k + 2 ^ 7 = a + (dualTerm s n m .w32 x sub u k + 2 ^ 7) :=
    fun a k => by rw [← add_assoc, ← dualStep_eq_add_dualTerm, Width.bits]
  have hsum : roundDualAcc (s.resolve e) x sub u s.q[n] s.q[m] s.ports.accIn =
      (s.ports.accIn.toNat * 2 ^ 8 +
        activeSum (s.resolve e) 32 (fun k => dualTerm s n m .w32 x sub u k + 2 ^ 7)) / 2 ^ 8 := by
    rw [roundDualAcc, foldActive_eq_add_activeSum hstep, Int.shiftRight_eq_div_pow]
    rfl
  rw [← hsum]
  exact reduceOp_spec he _

/-- A sum of lanes with a legal ECI: the frame and RES (45_reduction.md R221). -/
theorem sumOp_spec (w : Width) (u : Bool) (m : QReg) :
    ∃ t, sumOp w u m s = .next t ∧ Reduces s t e (trunc 64
      (s.ports.accIn.toNat + activeSum (s.resolve e) w.bits fun k => intOf u (s.lane m k w.bits))) := by
  have hsum : laneSum (s.resolve e) u w.bits s.q[m] s.ports.accIn =
      s.ports.accIn.toNat + activeSum (s.resolve e) w.bits fun k => intOf u (s.lane m k w.bits) :=
    foldActive_eq_add_activeSum (fun _ _ => rfl) _ _ _
  rw [← hsum]
  exact reduceOp_spec he _

end

/-- Settles O39: every form is a dual accumulate. -/
theorem dualAccumulateSumsActiveProducts : Obligations.DualAccumulateSumsActiveProducts := by
  intro s e n m he i w x sub u hf
  rw [exec_dualAccForms hf]
  exact dualAccOp_spec he x sub w u n m

/-- Settles O40: every form is a rounding dual accumulate. -/
theorem roundingDualAccumulateIsExtended : Obligations.RoundingDualAccumulateIsExtended := by
  intro s e n m he i x sub u hf
  rw [exec_roundDualForms hf]
  exact roundDualAccOp_spec he x sub u n m

/-- Settles O41: every form is a sum of lanes. -/
theorem vectorSumAddsActiveLanes : Obligations.VectorSumAddsActiveLanes := by
  intro s e m he i w u hf
  rw [exec_vaddvForms hf]
  exact sumOp_spec he w u m

/-! ## The lanes a reduction reads -/

/-- In both states register r holds the same lane k XOR x for every active lane k (45_reduction.md R211). -/
def AgreeOnActive (s t : State) (mask : Mask) (r : QReg) (x : Nat) (w : Width) : Prop :=
  ∀ k, k < lanes w.bits → active mask k w.bits = true → t.lane r (k ^^^ x) w.bits = s.lane r (k ^^^ x) w.bits

/-- Without exchange the agreement is on the active lanes themselves. -/
theorem AgreeOnActive.lane_eq {s t : State} {mask : Mask} {r : QReg} {w : Width} (h : AgreeOnActive s t mask r 0 w)
    {k : Nat} (hk : k < lanes w.bits) (hactive : active mask k w.bits = true) :
    t.lane r k w.bits = s.lane r k w.bits := by
  simpa only [Nat.xor_zero] using h k hk hactive

/-- The sums of a dual accumulate read Q[m] in the active lanes and Q[n] in their partners (45_reduction.md R211). -/
theorem AgreeOnActive.dualTerm_eq {s t : State} {mask : Mask} {n m : QReg} {x : Nat} {w : Width}
    (hm : AgreeOnActive s t mask m 0 w) (hn : AgreeOnActive s t mask n x w) (sub u : Bool) {k : Nat}
    (hk : k < lanes w.bits) (hactive : active mask k w.bits = true) :
    dualTerm t n m w x sub u k = dualTerm s n m w x sub u k := by
  rw [dualTerm, dualTerm, hn k hk hactive, hm.lane_eq hk hactive]

/-- Two reductions with one value give one RES. -/
theorem sameResult_of_reduces {i : Instr} {s s' : State} {e : Mask} {r r' : DWord} (hr : r' = r)
    (hs : ∃ t, exec i s = .next t ∧ Reduces s t e r) (hs' : ∃ t, exec i s' = .next t ∧ Reduces s' t e r') :
    SameResult i s s' := by
  obtain ⟨t, hnext, ⟨_, _, _, hres⟩, _⟩ := hs
  obtain ⟨t', hnext', ⟨_, _, _, hres'⟩, _⟩ := hs'
  exact ⟨t, t', hnext, hnext', hres ▸ rfl, by rw [hres', hres, hr]⟩

/-- Settles O42: RES is a sum over the active lanes, and each term reads the lanes on which the two register files
agree. -/
theorem reductionResultReadsOnlyActiveLanesOperands : Obligations.ReductionResultReadsOnlyActiveLanesOperands := by
  intro s e n m q he t agree
  have het : eciExecMask t.eci = some e := he
  refine ⟨fun i w u hf (hm : AgreeOnActive s t (s.resolve e) m 0 w) => ?_,
    fun i w x sub u hf (hm : AgreeOnActive s t (s.resolve e) m 0 w) hn => ?_,
    fun i x sub u hf (hm : AgreeOnActive s t (s.resolve e) m 0 .w32) hn => ?_⟩
  · refine sameResult_of_reduces ?_ (vectorSumAddsActiveLanes s e m he i w u hf)
      (vectorSumAddsActiveLanes t e m het i w u hf)
    exact congrArg (fun v => trunc 64 (s.ports.accIn.toNat + v)) (activeSum_congr fun k hk ha =>
      congrArg (intOf u) (hm.lane_eq hk ha))
  · refine sameResult_of_reduces ?_ (dualAccumulateSumsActiveProducts s e n m he i w x sub u hf)
      (dualAccumulateSumsActiveProducts t e n m het i w x sub u hf)
    exact congrArg (fun v => trunc 64 (s.ports.accIn.toNat + v)) (activeSum_congr fun k hk ha =>
      hm.dualTerm_eq hn sub u hk ha)
  · refine sameResult_of_reduces ?_ (roundingDualAccumulateIsExtended s e n m he i x sub u hf)
      (roundingDualAccumulateIsExtended t e n m het i x sub u hf)
    exact congrArg (fun v => trunc 64 ((s.ports.accIn.toNat * 2 ^ 8 + v) / 2 ^ 8)) (activeSum_congr fun k hk ha =>
      congrArg (· + 2 ^ 7) (hm.dualTerm_eq hn sub u hk ha))

/-! ## The low half of RES -/

/-- The low half of a 64-bit accumulation is the 32-bit accumulation of the seed's low half (45_reduction.md R222). -/
theorem setWidth_trunc_add (seed : DWord) (v : Int) :
    (trunc 64 (seed.toNat + v)).setWidth 32 = trunc 32 ((seed.setWidth 32).toNat + v) := by
  apply BitVec.eq_of_toNat_eq
  rw [trunc, trunc, BitVec.toNat_setWidth, BitVec.toNat_ofInt, BitVec.toNat_ofInt, BitVec.toNat_setWidth]
  omega

/-- The low half of the RES of a wrapping reduction (45_reduction.md R222). -/
theorem lowHalf_of_reduces {i : Instr} {s : State} {e : Mask} {v : Int}
    (h : ∃ t, exec i s = .next t ∧ Reduces s t e (trunc 64 (s.ports.accIn.toNat + v))) :
    ∃ t r, exec i s = .next t ∧ t.res = some r ∧
      r.setWidth 32 = trunc 32 ((s.ports.accIn.setWidth 32).toNat + v) := by
  obtain ⟨t, hnext, ⟨_, _, _, hres⟩, _⟩ := h
  exact ⟨t, _, hnext, hres, setWidth_trunc_add s.ports.accIn v⟩

/-- Settles O43: RES is the 64-bit accumulation in both families. -/
theorem lowHalfOfResultIsThe32BitSum : Obligations.LowHalfOfResultIsThe32BitSum :=
  fun s e n m he =>
    ⟨fun i w x sub u hf => lowHalf_of_reduces (dualAccumulateSumsActiveProducts s e n m he i w x sub u hf),
      fun i w u hf => lowHalf_of_reduces (vectorSumAddsActiveLanes s e m he i w u hf)⟩

end Sys2Proof.Machine
end

section
/-! SUPPORT. The statements of 46_memory_access.md: a load and a store without a fault (R233, R234), the same with a
fault at one element (R231, R232), and a faulted load that is presented again (R235, R236). -/

namespace Sys2Proof.Machine

/-! ## The first fault of an access -/

/-- Element k is active and its request faults with this cause, and no earlier active element's request faults
(46_memory_access.md R231). -/
structure FirstFault (s : State) (m : Mask) (w : Width) (ms : MSize) (dir : Dir) (k cause : Nat) : Prop where
  lt_lanes : k < lanes w.bits
  isActive : active m k w.bits = true
  faults : s.elementFault ms dir k = some cause
  earlier : ∀ j, j < k → active m j w.bits = true → s.elementFault ms dir j = none

/-- What precedes an element in ascending order is every smaller one. -/
theorem range_eq_append_cons {n k : Nat} {pre post : List Nat} (h : List.range n = pre ++ k :: post) :
    pre = List.range k ∧ k < n := by
  have hlen : pre.length < n := by
    have := congrArg List.length h
    simp only [List.length_range, List.length_append, List.length_cons] at this
    omega
  have hk : k = pre.length := by
    have := congrArg (fun l => l[pre.length]?) h
    simpa [hlen, eq_comm] using this
  have hpre : List.range (min pre.length n) = pre := by
    rw [← List.take_range, h, List.take_left]
  rw [Nat.min_eq_left hlen.le] at hpre
  exact ⟨hk ▸ hpre.symm, hk ▸ hlen⟩

namespace FirstFault

variable {s : State} {m : Mask} {w : Width} {ms : MSize} {dir : Dir} {k k' cause cause' : Nat}

/-- No element before one first fault is another. -/
theorem not_lt (h : FirstFault s m w ms dir k cause) (h' : FirstFault s m w ms dir k' cause') : ¬ k < k' := by
  intro hlt
  have hnone := h'.earlier k hlt h.isActive
  rw [h.faults] at hnone
  cases hnone

/-- The first fault is one. -/
theorem unique (h : FirstFault s m w ms dir k cause) (h' : FirstFault s m w ms dir k' cause') :
    k = k' ∧ cause = cause' := by
  obtain rfl : k = k' := Nat.le_antisymm (Nat.not_lt.mp (h'.not_lt h)) (Nat.not_lt.mp (h.not_lt h'))
  exact ⟨rfl, Option.some.inj (h.faults.symm.trans h'.faults)⟩

/-- An access meets no fault, or it has a first one. -/
theorem none_or_exists (s : State) (m : Mask) (w : Width) (ms : MSize) (dir : Dir) :
    (∀ k, k < lanes w.bits → active m k w.bits = true → s.elementFault ms dir k = none) ∨
      ∃ k cause, FirstFault s m w ms dir k cause := by
  by_cases h : ∃ k, k < lanes w.bits ∧ active m k w.bits = true ∧ s.elementFault ms dir k ≠ none
  · obtain ⟨hlt, ha, hf⟩ := Nat.find_spec h
    obtain ⟨cause, hcause⟩ := Option.ne_none_iff_exists'.mp hf
    refine .inr ⟨Nat.find h, cause, hlt, ha, hcause, fun j hj haj => ?_⟩
    by_contra hfj
    exact Nat.find_min h hj ⟨hj.trans hlt, haj, hfj⟩
  · exact .inl fun k hk ha => by_contra fun hf => h ⟨k, hk, ha, hf⟩

/-- The element at which an element loop stops is the first fault, and the elements before it are the smaller ones. -/
theorem of_split {pre post : List Nat} (hsplit : List.range (lanes w.bits) = pre ++ k :: post)
    (hactive : active m k w.bits = true) (hfault : s.elementFault ms dir k = some cause)
    (hpre : ∀ j ∈ pre, active m j w.bits = true → s.elementFault ms dir j = none) :
    pre = List.range k ∧ FirstFault s m w ms dir k cause := by
  obtain ⟨rfl, hk⟩ := range_eq_append_cons hsplit
  exact ⟨rfl, hk, hactive, hfault, fun j hj => hpre j (List.mem_range.mpr hj)⟩

/-- An element loop that got through every element met no first fault. -/
theorem not_of_forall
    (hnone : ∀ j ∈ List.range (lanes w.bits), active m j w.bits = true → s.elementFault ms dir j = none) :
    ¬ FirstFault s m w ms dir k cause := by
  intro h
  have hk := hnone k (List.mem_range.mpr h.lt_lanes) h.isActive
  rw [h.faults] at hk
  cases hk

end FirstFault

/-! ## A load -/

/-- What no load changes: all that no vector operation changes, every register but Q[d], memory and STATUS. -/
def LoadFrame (s t : State) (d : QReg) : Prop :=
  KeepsRest s t ∧ KeepsQExcept s t d ∧ t.mem = s.mem ∧ t.status = s.status

/-- A load leaves every byte of memory as it was. -/
theorem LoadFrame.keepsMemory {s t : State} {d : QReg} : LoadFrame s t d → KeepsMemory s t :=
  fun ⟨_, _, hmem, _⟩ a => congrArg (readByte · a) hmem

/-- Loading elements keeps the load's frame and what is the Advancer's, and adds the requests. -/
theorem LoadProgress.frame {s t : State} {d : QReg} {reqs : List MemRequest} (h : LoadProgress s t d reqs) :
    LoadFrame s t d ∧ BodyFrame s t ∧ t.requests = s.requests ++ reqs := by
  obtain ⟨v, rfl⟩ := h
  have hrest : KeepsRest s { s with q := s.q.set d v, requests := s.requests ++ reqs } :=
    ⟨rfl, rfl, rfl, rfl, rfl, rfl, rfl⟩
  exact ⟨⟨hrest, fun r hr => getElem_set_other _ _ hr, rfl, rfl⟩, ⟨hrest, rfl, rfl⟩, rfl⟩

/-- A load whose first fault is at element k ends there: the elements below k are loaded and the request of k is the
last (46_memory_access.md R231, R232). -/
theorem loadOp_faults {s : State} {e : Mask} (he : eciExecMask s.eci = some e) {w : Width} {ms : MSize} {k cause : Nat}
    (hk : FirstFault s (s.resolve e) w ms .read k cause) (u : Bool) (d : QReg) :
    ∃ t, loadOp w ms u d s = .next (t.finish (.memoryFault (s.faultInfo ms .read k cause)) none) ∧
      LoadProgress s t d (loadRequests s (s.resolve e) w ms (k + 1)) ∧
      ∀ j, j < lanes w.bits → elem t.q[d] j w.bits =
        if j < k then loadedValue s d (s.resolve e) e w ms u j else s.lane d j w.bits := by
  have hloop := loadElements_spec (w := w) (ms := ms) (u := u) (d := d) (m := s.resolve e) (e := e)
    (fun _ => active_of_resolve) (List.range (lanes w.bits)) s List.nodup_range fun j => List.mem_range.mp
  rw [loadOp, execute_legal he]
  cases hb : loadElements w ms u d (s.resolve e) e (List.range (lanes w.bits)) s with
  | completed t res =>
    rw [hb] at hloop
    obtain ⟨-, -, hnone, -⟩ := hloop
    exact absurd hk (FirstFault.not_of_forall hnone)
  | aborted t info =>
    rw [hb] at hloop
    obtain ⟨pre, k', post, cause', hsplit, hactive, hfault, rfl, hpre, hprog, hlanes⟩ := hloop
    obtain ⟨rfl, hk'⟩ := FirstFault.of_split hsplit hactive hfault hpre
    obtain ⟨rfl, rfl⟩ := hk.unique hk'
    rw [← List.range_succ] at hprog
    exact ⟨t, rfl, hprog, fun j hj => by simpa only [List.mem_range] using hlanes j hj⟩

/-- Settles O44: the load completes, and the Advancer follows it. -/
theorem loadFillsActiveLanes : Obligations.LoadFillsActiveLanes := by
  intro s e d he i w ms u hf hnofault
  obtain ⟨t, hrun, hprog, hlanes⟩ := loadOp_completes he w ms u d hnofault
  obtain ⟨hframe, hbody, hreqs⟩ := hprog.frame
  have hmem := hframe.keepsMemory
  obtain ⟨hrest, hothers, -, hstatus⟩ := hframe
  exact ⟨_, (exec_loadForms hf s).trans hrun, ⟨advances_after_body hbody e none, hrest, rfl, rfl⟩, hothers, hmem,
    hstatus, hlanes, hreqs⟩

/-- Settles O45: element k is the load's first fault. -/
theorem faultingLoadCommitsEarlierElements : Obligations.FaultingLoadCommitsEarlierElements := by
  intro s e d he i w ms u hf k cause hk hactive hfault hearlier
  obtain ⟨t, hrun, hprog, hlanes⟩ := loadOp_faults he ⟨hk, hactive, hfault, hearlier⟩ u d
  obtain ⟨hframe, ⟨-, hpred⟩, hreqs⟩ := hprog.frame
  have hmem := hframe.keepsMemory
  obtain ⟨hrest, hothers, -, hstatus⟩ := hframe
  exact ⟨_, (exec_loadForms hf s).trans hrun, rfl, rfl, hpred, hrest, hstatus, hothers, hmem, hlanes, hreqs⟩

/-! ## A store -/

/-- A store whose first fault is at element k ends there: the elements below k are stored and the request of k is the
last (46_memory_access.md R231, R232). -/
theorem storeOp_faults {s : State} {e : Mask} (he : eciExecMask s.eci = some e) (hwf : memWf s.mem = true)
    {w : Width} {ms : MSize} {k cause : Nat} (hk : FirstFault s (s.resolve e) w ms .write k cause) (d : QReg) :
    ∃ mem, storeOp w ms d s = .next
        (({ s with mem := mem, requests := s.requests ++ storeRequests s d (s.resolve e) w ms (k + 1) } : State).finish
          (.memoryFault (s.faultInfo ms .write k cause)) none) ∧
      StoredElements s mem d (s.resolve e) w ms (List.range k) := by
  have hloop := storeElements_spec (w := w) (ms := ms) (d := d) (m := s.resolve e) (List.range (lanes w.bits)) s hwf
    List.nodup_range fun j => List.mem_range.mp
  rw [storeOp, execute_legal he]
  cases hb : storeElements w ms d (s.resolve e) (List.range (lanes w.bits)) s with
  | completed t res =>
    rw [hb] at hloop
    obtain ⟨-, hnone, -⟩ := hloop
    exact absurd hk (FirstFault.not_of_forall hnone)
  | aborted t info =>
    rw [hb] at hloop
    obtain ⟨pre, k', post, cause', hsplit, hactive, hfault, rfl, hpre, mem, rfl, hmem⟩ := hloop
    obtain ⟨rfl, hk'⟩ := FirstFault.of_split hsplit hactive hfault hpre
    obtain ⟨rfl, rfl⟩ := hk.unique hk'
    rw [← List.range_succ]
    exact ⟨mem, rfl, hmem⟩

/-- Memory that holds the first n elements of a store, and every other address as before. -/
theorem storesElements_of_range {s t : State} {d : QReg} {m : Mask} {w : Width} {ms : MSize} {n : Nat}
    (h : StoredElements s t.mem d m w ms (List.range n)) : StoresElements s t d m w ms n := by
  obtain ⟨-, hinside, houtside⟩ := h
  constructor
  · rintro a j i ⟨hj, hactive, hi, rfl⟩
    exact hinside j (List.mem_range.mpr hj) hactive i hi
  · intro a hout
    exact houtside a fun j hj hactive i hi ha => hout j i ⟨List.mem_range.mp hj, hactive, hi, ha⟩

/-- Settles O46: the store completes, and the Advancer follows it. -/
theorem storeWritesActiveElements : Obligations.StoreWritesActiveElements := by
  intro s e d he hwf i w ms hf hnofault
  obtain ⟨mem, hrun, hmem⟩ := storeOp_completes he hwf w ms d hnofault
  exact ⟨_, (exec_storeForms hf s).trans hrun, ⟨⟨rfl, rfl⟩, ⟨rfl, rfl, rfl, rfl, rfl, rfl, rfl⟩, rfl, rfl⟩, fun _ => rfl,
    rfl, storesElements_of_range hmem, rfl⟩

/-- Settles O47: element k is the store's first fault. -/
theorem faultingStoreCommitsEarlierElements : Obligations.FaultingStoreCommitsEarlierElements := by
  intro s e d he hwf i w ms hf k cause hk hactive hfault hearlier
  obtain ⟨mem, hrun, hmem⟩ := storeOp_faults he hwf ⟨hk, hactive, hfault, hearlier⟩ d
  exact ⟨_, (exec_storeForms hf s).trans hrun, rfl, rfl, ⟨rfl, rfl⟩, ⟨rfl, rfl, rfl, rfl, rfl, rfl, rfl⟩, rfl,
    fun _ => rfl, storesElements_of_range hmem, rfl⟩

/-! ## A faulted load presented again -/

/-- Whether a lane is active is the first bit of its predicate. -/
theorem active_eq_lanePredicate (m : Mask) (j : Nat) (w : Width) :
    active m j w.bits = (lanePredicate m j w.bits).getLsbD 0 := by
  have hbyte : j * w.bits / 8 = j * (w.bits / 8) := Nat.mul_div_assoc j (Nat.dvd_of_mod_eq_zero w.bits_mod)
  have hpos : 0 < w.bits / 8 := by cases w <;> decide
  simp [active, lanePredicate, hbyte, hpos]

/-- Execute masks that agree on a lane resolve to masks that do (40_predication.md R110). -/
theorem lanePredicate_resolve_congr (s : State) {e e' : Mask} {j w : Nat}
    (h : lanePredicate e' j w = lanePredicate e j w) :
    lanePredicate (s.resolve e') j w = lanePredicate (s.resolve e) j w := by
  simp only [lanePredicate] at h
  simp only [lanePredicate, State.resolve, BitVec.extractLsb'_and, h]

/-- The value a load gives a lane depends on the lane's own bits of the execute mask only. -/
theorem loadedValue_resolve_congr (s : State) (d : QReg) {e e' : Mask} {w : Width} (ms : MSize) (u : Bool) {j : Nat}
    (h : lanePredicate e' j w.bits = lanePredicate e j w.bits) :
    loadedValue s d (s.resolve e') e' w ms u j = loadedValue s d (s.resolve e) e w ms u j := by
  have hm := lanePredicate_resolve_congr s h
  simp only [loadedValue, mergeLane, active_eq_lanePredicate, h, hm]

/-- With an empty oracle a load completes (46_memory_access.md R233). -/
theorem loadOp_of_no_faults {s t : State} {e : Mask} {w : Width} {ms : MSize} {u : Bool} {d : QReg}
    (he : eciExecMask s.eci = some e) (hnofault : s.memFaults = []) (hrun : loadOp w ms u d s = .next t) :
    LoadFrame s t d ∧ ∀ j, j < lanes w.bits → t.lane d j w.bits = loadedValue s d (s.resolve e) e w ms u j := by
  obtain ⟨t', hrun', hprog, hlanes⟩ := loadOp_completes he w ms u d
    fun k _ _ => elementFault_of_no_faults hnofault ms .read k
  cases hrun'.symm.trans hrun
  exact ⟨hprog.frame.1, hlanes⟩

/-- A load that ended with a memory fault loaded the elements before the faulting one (46_memory_access.md R232). -/
theorem loadOp_of_memoryFault {s t : State} {e : Mask} {w : Width} {ms : MSize} {u : Bool} {d : QReg}
    {info : MemFaultInfo} (he : eciExecMask s.eci = some e) (hrun : loadOp w ms u d s = .next t)
    (hfault : t.outcome = some (.memoryFault info)) :
    LoadFrame s t d ∧ KeepsPredicates s t ∧ ∀ j, j < lanes w.bits → t.lane d j w.bits =
      if j < info.element then loadedValue s d (s.resolve e) e w ms u j else s.lane d j w.bits := by
  rcases FirstFault.none_or_exists s (s.resolve e) w ms .read with hnone | ⟨k, cause, hk⟩
  · obtain ⟨t', hrun', -⟩ := loadOp_completes he w ms u d hnone
    cases hrun'.symm.trans hrun
    cases hfault
  · obtain ⟨t', hrun', hprog, hlanes⟩ := loadOp_faults he hk u d
    cases hrun'.symm.trans hrun
    cases hfault
    obtain ⟨hframe, ⟨-, hpred⟩, -⟩ := hprog.frame
    exact ⟨hframe, hpred, hlanes⟩

/-- ECI set to the k beats committed skips exactly the 32-bit lanes below k, and executes the others as ECI = NONE does
(40_predication.md R113). -/
theorem eciExecMask_of_committed {k : Nat} {code : BitVec 3} (h : (k, code) ∈ [(1, 1#3), (2, 2#3), (3, 4#3)]) :
    ∃ e, eciExecMask code = some e ∧ ∀ j, j < lanes Width.w32.bits →
      (j < k → active e j Width.w32.bits = false) ∧
      (k ≤ j → lanePredicate e j Width.w32.bits = lanePredicate 0xFFFF#16 j Width.w32.bits) := by
  fin_cases h
  · exact ⟨0xFFF0#16, rfl, by decide⟩
  · exact ⟨0xFF00#16, rfl, by decide⟩
  · exact ⟨0xF000#16, rfl, by decide⟩

/-- A lane of a beat that ECI skips is kept (46_memory_access.md R236). -/
theorem loadedValue_of_skipped (s : State) (d : QReg) (m : Mask) {e : Mask} {w : Width} (ms : MSize) (u : Bool) {j : Nat}
    (h : active e j w.bits = false) : loadedValue s d m e w ms u j = s.lane d j w.bits :=
  if_pos h

/-- From a state r in which the lanes of s below k are loaded, a load whose execute mask e' skips exactly the lanes below
k gives every lane what a load from s with e gives it (46_memory_access.md R235, R236). -/
theorem loadedValue_of_resumed {s r : State} {d : QReg} {e e' : Mask} {w : Width} {ms : MSize} {u : Bool} {k j : Nat}
    (hrest : r.loopcount = s.loopcount ∧ r.ltpsize = s.ltpsize ∧ r.ports = s.ports ∧ r.cfg = s.cfg)
    (hvpr : r.vpr = s.vpr) (hmem : r.mem = s.mem)
    (hlane : r.lane d j w.bits = if j < k then loadedValue s d (s.resolve e) e w ms u j else s.lane d j w.bits)
    (hskipped : j < k → active e' j w.bits = false)
    (hexecuted : k ≤ j → lanePredicate e' j w.bits = lanePredicate e j w.bits) :
    loadedValue r d (r.resolve e') e' w ms u j = loadedValue s d (s.resolve e) e w ms u j := by
  obtain ⟨hloopcount, hltpsize, hports, hcfg⟩ := hrest
  rcases Nat.lt_or_ge j k with hj | hj
  · rw [if_pos hj] at hlane
    rw [loadedValue_of_skipped r d _ ms u (hskipped hj), hlane]
  · rw [if_neg (Nat.not_lt.mpr hj)] at hlane
    calc loadedValue r d (r.resolve e') e' w ms u j
        = loadedValue r d (r.resolve e) e w ms u j := loadedValue_resolve_congr r d ms u (hexecuted hj)
      _ = loadedValue r d (s.resolve e) e w ms u j := by rw [resolve_congr hvpr hloopcount hltpsize]
      _ = loadedValue s d (s.resolve e) e w ms u j := loadedValue_congr hlane hports hmem hcfg

/-- Settles O49: the lanes below the faulting element are kept by the second presentation, which loads the others as
the load without the fault does. -/
theorem resumedLoadEqualsUninterruptedLoad : Obligations.ResumedLoadEqualsUninterruptedLoad := by
  intro s t u v d info code heci hrun hfault hcode hwhole hagain
  have hform : (.vldrw32 d, .w32, .word, false) ∈ loadForms d := by simp [loadForms]
  rw [exec_loadForms hform] at hrun hwhole hagain
  obtain ⟨⟨hrest, hothers, hmem, hstatus⟩, ⟨hvpr, -⟩, hlanes⟩ :=
    loadOp_of_memoryFault (eciExecMask_of_zero heci) hrun hfault
  obtain ⟨⟨-, hothersU, hmemU, hstatusU⟩, hlanesU⟩ :=
    loadOp_of_no_faults (s := { s with memFaults := [] }) (eciExecMask_of_zero heci) rfl hwhole
  obtain ⟨e, he, hbeats⟩ := eciExecMask_of_committed hcode
  obtain ⟨⟨-, hothersV, hmemV, hstatusV⟩, hlanesV⟩ := loadOp_of_no_faults he rfl hagain
  obtain ⟨hloopcount, hltpsize, -, hports, -, hcfg, -⟩ := hrest
  refine ⟨regs_ext fun r => ?_, (hmemV.trans hmem).trans hmemU.symm, (hstatusV.trans hstatus).trans hstatusU.symm⟩
  by_cases hr : r = d
  · subst hr
    refine eq_of_elems (w := Width.w32.bits) (by decide) fun j hj => ?_
    obtain ⟨hskipped, hexecuted⟩ := hbeats j hj
    calc v.lane r j Width.w32.bits
        = _ := hlanesV j hj
      _ = loadedValue s r (s.resolve 0xFFFF#16) 0xFFFF#16 .w32 .word false j :=
          loadedValue_of_resumed ⟨hloopcount, hltpsize, hports, hcfg⟩ hvpr hmem (hlanes j hj) hskipped hexecuted
      _ = u.lane r j Width.w32.bits := (hlanesU j hj).symm
  · exact ((hothersV r hr).trans (hothers r hr)).trans (hothersU r hr).symm

end Sys2Proof.Machine
end

section
/-! SUPPORT. What MSR and MRS leave (47_state_access.md R241 to R250), which operations give RES a value, and the
OUTCOME of every transaction (60_exceptions.md R255). -/

namespace Sys2Proof.Machine

/-! ## MSR and MRS -/

/-- Every form of MSR is the write of its register (47_state_access.md R240). -/
theorem exec_msrForms {i : Instr} {r : Sysreg} (hf : (i, r) ∈ msrForms) (s : State) :
    exec i s = .next ((s.writeSysreg r s.ports.scalar).finish .done none) := by
  fin_cases hf <;> rfl

/-- Every form of MRS is the read of its register (47_state_access.md R240). -/
theorem exec_mrsForms {i : Instr} {r : Sysreg} (hf : (i, r) ∈ mrsForms) (s : State) :
    exec i s = .next (s.finish .done (some ((s.readSysreg r).setWidth 64))) := by
  fin_cases hf <;> rfl

/-- Settles O50: each MSR by its register. -/
theorem msrWritesTheNamedRegister : Obligations.MsrWritesTheNamedRegister := fun s =>
  ⟨exec_msrForms (r := .vpr) (by simp [msrForms]) s, exec_msrForms (r := .status) (by simp [msrForms]) s,
    exec_msrForms (r := .loopcount) (by simp [msrForms]) s, exec_msrForms (r := .ltpsize) (by simp [msrForms]) s,
    exec_msrForms (r := .eci) (by simp [msrForms]) s⟩

/-- A field that the mask covers shows the register's bits on RES. -/
theorem extractLsb'_setWidth_and_of_ones {x mask : Word} {start len : Nat} (hlen : start + len ≤ 32)
    (hmask : mask.extractLsb' start len = BitVec.allOnes len) :
    ((x &&& mask).setWidth 64).extractLsb' start len = x.extractLsb' start len := by
  have hfield : ((x &&& mask).setWidth 64).extractLsb' start len = (x &&& mask).extractLsb' start len := by
    apply BitVec.eq_of_getLsbD_eq
    intro b hb
    have h64 : start + b < 64 := by omega
    simp [h64]
  rw [hfield, BitVec.extractLsb'_and, hmask, BitVec.and_allOnes]

/-- A field outside the mask reads 0 on RES. -/
theorem extractLsb'_setWidth_and_of_zero (x : Word) {mask : Word} {start len : Nat}
    (hmask : (mask.setWidth 64).extractLsb' start len = 0#len) :
    ((x &&& mask).setWidth 64).extractLsb' start len = 0#len := by
  rw [BitVec.setWidth_and, BitVec.extractLsb'_and, hmask, BitVec.and_zero]

/-- Settles O51: RES is the zero-extended register, whose bits are those under its mask. -/
theorem mrsReadsTheNamedRegister : Obligations.MrsReadsTheNamedRegister := by
  intro s i r hf
  refine ⟨(s.readSysreg r).setWidth 64, exec_mrsForms hf s, ?_⟩
  cases r with
  | vpr =>
    exact ⟨extractLsb'_setWidth_and_of_ones (by decide) (by decide), extractLsb'_setWidth_and_of_zero _ (by decide)⟩
  | status =>
    exact ⟨extractLsb'_setWidth_and_of_ones (by decide) (by decide), extractLsb'_setWidth_and_of_zero _ (by decide),
      extractLsb'_setWidth_and_of_zero _ (by decide)⟩
  | loopcount => exact BitVec.toNat_setWidth_of_le (by decide)
  | ltpsize =>
    exact (BitVec.toNat_setWidth_of_le (by decide)).trans (BitVec.toNat_setWidth_of_le (by decide))
  | eci => exact (BitVec.toNat_setWidth_of_le (by decide)).trans (BitVec.toNat_setWidth_of_le (by decide))

/-! ## RES after the execution sequence -/

/-- What a body gives RES: nothing where a memory fault ended it. -/
def Body.res : Body → Option DWord
  | .completed _ res => res
  | .aborted _ _ => none

/-- When its body gives RES nothing, the execution sequence leaves RES without a value. -/
theorem execute_res_none {s t : State} {body : Mask → Mask → Body} (h : execute s body = .next t)
    (hbody : ∀ m e, (body m e).res = none) : t.res = none := by
  rcases execute_cases h with ⟨-, rfl⟩ | ⟨e, -, ⟨u, res, hu, rfl⟩ | ⟨u, info, -, rfl⟩⟩
  · rfl
  · have hres := hbody (s.resolve e) e
    rwa [hu] at hres
  · rfl

/-- The element loop of a load gives RES nothing. -/
theorem loadElements_res (w : Width) (ms : MSize) (u : Bool) (d : QReg) (m e : Mask) (es : List Nat) (s : State) :
    (loadElements w ms u d m e es s).res = none := by
  induction es generalizing s with
  | nil => rfl
  | cons k es ih =>
    simp only [loadElements]
    split
    · split
      · split
        · rfl
        · exact ih _
      · exact ih _
    · exact ih s

/-- The element loop of a store gives RES nothing. -/
theorem storeElements_res (w : Width) (ms : MSize) (d : QReg) (m : Mask) (es : List Nat) (s : State) :
    (storeElements w ms d m es s).res = none := by
  induction es generalizing s with
  | nil => rfl
  | cons k es ih =>
    simp only [storeElements]
    split
    · split
      · rfl
      · exact ih _
    · exact ih s

/-! ## Which operations give RES a value -/

/-- Whatever way the operation ends, RES carries no value after it. -/
def EmptiesRes (i : Instr) : Prop := ∀ s t : State, exec i s = .next t → t.res = none

/-- RES carries a value after the operation exactly when it ended with DONE. -/
def FillsRes (i : Instr) : Prop := ∀ s t : State, exec i s = .next t → (t.res.isSome = true ↔ t.outcome = some .done)

/-- A vector operation that produces a result vector empties RES. -/
theorem emptiesRes_vectorOp {i : Instr} (hop : ∀ s, ∃ d effects, exec i s = vectorOp d effects s) : EmptiesRes i := by
  intro s t h
  obtain ⟨d, effects, hop⟩ := hop s
  exact execute_res_none (hop.symm.trans h) fun _ _ => rfl

/-! Each shared operation but the reduction and MRS empties RES (10_state.md R30; log 12). -/

section
variable {i : Instr} {w : Width} {ms : MSize} {u by90 exchange sub round saturate : Bool} {half : Nat} {d n m : QReg}
  {src : Operand2}

theorem emptiesRes_bitwiseOp {f : QWord → QWord → QWord} (hop : ∀ s, exec i s = bitwiseOp f d n m s) : EmptiesRes i :=
  emptiesRes_vectorOp fun s => ⟨_, _, hop s⟩

theorem emptiesRes_laneOp {f : Nat → Bool → Int → Int → Int × Bool} (hop : ∀ s, exec i s = laneOp f w u d n src s) :
    EmptiesRes i :=
  emptiesRes_vectorOp fun s => ⟨_, _, hop s⟩

theorem emptiesRes_shiftOp (hop : ∀ s, exec i s = shiftOp round saturate w u d n src s) : EmptiesRes i :=
  emptiesRes_vectorOp fun s => ⟨_, _, hop s⟩

theorem emptiesRes_widenMulOp (hop : ∀ s, exec i s = widenMulOp half w u d n m s) : EmptiesRes i :=
  emptiesRes_vectorOp fun s => ⟨_, _, hop s⟩

theorem emptiesRes_rotateAddOp (hop : ∀ s, exec i s = rotateAddOp by90 w d n m s) : EmptiesRes i :=
  emptiesRes_vectorOp fun s => ⟨_, _, hop s⟩

theorem emptiesRes_dualHighOp (hop : ∀ s, exec i s = dualHighOp exchange sub round w d n m s) : EmptiesRes i :=
  emptiesRes_vectorOp fun s => ⟨_, _, hop s⟩

theorem emptiesRes_carryOp {inv : Word} {always : Bool}
    (hop : ∀ s, ∃ cin, exec i s = carryOp cin inv always d n m s) : EmptiesRes i :=
  emptiesRes_vectorOp fun s => (hop s).elim fun _ hop => ⟨_, _, hop⟩

theorem emptiesRes_loadOp (hop : ∀ s, exec i s = loadOp w ms u d s) : EmptiesRes i :=
  fun s _ h => execute_res_none ((hop s).symm.trans h) fun m e => loadElements_res w ms u d m e _ s

theorem emptiesRes_storeOp (hop : ∀ s, exec i s = storeOp w ms d s) : EmptiesRes i :=
  fun s _ h => execute_res_none ((hop s).symm.trans h) fun m _ => storeElements_res w ms d m _ s

theorem emptiesRes_writeState {r : Sysreg} (hop : ∀ s, exec i s = writeState r s) : EmptiesRes i := by
  intro s t h
  rw [hop, writeState_eq] at h
  cases h
  rfl

end

/-- A reduction gives RES a value unless it met a reserved ECI (45_reduction.md R210, 60_exceptions.md R252). -/
theorem fillsRes_reduceOp {i : Instr} {value : State → Mask → Int} (hop : ∀ s, exec i s = reduceOp (value s) s) :
    FillsRes i := by
  intro s t h
  rcases execute_cases ((hop s).symm.trans h) with ⟨-, rfl⟩ | ⟨e, -, ⟨u, res, hu, rfl⟩ | ⟨u, info, hu, -⟩⟩
  · simp
  · cases hu
    simp
  · cases hu

/-- The reductions and MRS give RES a value exactly when they end with DONE. -/
theorem fillsRes_of_givesResult {i : Instr} (h : GivesResult i) : FillsRes i := by
  rcases h with ⟨n, m, hi | hi⟩ | ⟨m, hi⟩ | hi
  · obtain ⟨⟨i, w, x, sub, u⟩, hf, rfl⟩ := List.mem_map.mp hi
    exact fillsRes_reduceOp (exec_dualAccForms hf)
  · obtain ⟨⟨i, x, sub, u⟩, hf, rfl⟩ := List.mem_map.mp hi
    exact fillsRes_reduceOp (exec_roundDualForms hf)
  · obtain ⟨⟨i, w, u⟩, hf, rfl⟩ := List.mem_map.mp hi
    exact fillsRes_reduceOp (exec_vaddvForms hf)
  · obtain ⟨⟨i, r⟩, hf, rfl⟩ := List.mem_map.mp hi
    intro s t h
    rw [exec_mrsForms hf] at h
    cases h
    simp

/-- Every operation is one that gives a result or one that empties RES. The constructors are put together by the shared
operation they are; those not named are the lane-local operations (42_arith.md R150, 43_shift_mul.md R179). -/
theorem givesResult_or_emptiesRes (i : Instr) : GivesResult i ∨ EmptiesRes i := by
  cases i with
  | vmladavS8 n m | vmladavU8 n m | vmladavS16 n m | vmladavU16 n m | vmladavS32 n m | vmladavU32 n m
  | vmladavxS8 n m | vmladavxS16 n m | vmladavxS32 n m | vmlsdavS8 n m | vmlsdavS16 n m | vmlsdavS32 n m
  | vmlsdavxS8 n m | vmlsdavxS16 n m | vmlsdavxS32 n m =>
    exact .inl (.inl ⟨n, m, .inl (by simp [dualAccForms])⟩)
  | vrmlaldavhS32 n m | vrmlaldavhU32 n m | vrmlaldavhxS32 n m | vrmlsldavhS32 n m | vrmlsldavhxS32 n m =>
    exact .inl (.inl ⟨n, m, .inr (by simp [roundDualForms])⟩)
  | vaddvS8 m | vaddvU8 m | vaddvS16 m | vaddvU16 m | vaddvS32 m | vaddvU32 m =>
    exact .inl (.inr (.inl ⟨m, by simp [vaddvForms]⟩))
  | mrsVpr | mrsStatus | mrsLoopcount | mrsLtpsize | mrsEci =>
    exact .inl (.inr (.inr (by simp [mrsForms])))
  | msrVpr | msrStatus | msrLoopcount | msrLtpsize | msrEci =>
    exact .inr (emptiesRes_writeState fun _ => rfl)
  | vldrb8 | vldrbS16 | vldrbU16 | vldrh16 | vldrbS32 | vldrbU32 | vldrhS32 | vldrhU32 | vldrw32 =>
    exact .inr (emptiesRes_loadOp fun _ => rfl)
  | vstrb8 | vstrb16 | vstrh16 | vstrb32 | vstrh32 | vstrw32 =>
    exact .inr (emptiesRes_storeOp fun _ => rfl)
  | vadcI32 | vadciI32 | vsbcI32 | vsbciI32 =>
    exact .inr (emptiesRes_carryOp fun _ => ⟨_, rfl⟩)
  | vand => exact .inr (emptiesRes_bitwiseOp (f := fun x y => x &&& y) fun _ => rfl)
  | vbic => exact .inr (emptiesRes_bitwiseOp (f := fun x y => x &&& ~~~y) fun _ => rfl)
  | vorr => exact .inr (emptiesRes_bitwiseOp (f := fun x y => x ||| y) fun _ => rfl)
  | vorn => exact .inr (emptiesRes_bitwiseOp (f := fun x y => x ||| ~~~y) fun _ => rfl)
  | veor => exact .inr (emptiesRes_bitwiseOp (f := fun x y => x ^^^ y) fun _ => rfl)
  | vshlS8 | vshlS8Scalar | vshlU8 | vshlU8Scalar | vshlS16 | vshlS16Scalar | vshlU16 | vshlU16Scalar | vshlS32
  | vshlS32Scalar | vshlU32 | vshlU32Scalar | vrshlS8 | vrshlS8Scalar | vrshlU8 | vrshlU8Scalar | vrshlS16
  | vrshlS16Scalar | vrshlU16 | vrshlU16Scalar | vrshlS32 | vrshlS32Scalar | vrshlU32 | vrshlU32Scalar | vqshlS8
  | vqshlS8Scalar | vqshlU8 | vqshlU8Scalar | vqshlS16 | vqshlS16Scalar | vqshlU16 | vqshlU16Scalar | vqshlS32
  | vqshlS32Scalar | vqshlU32 | vqshlU32Scalar | vqrshlS8 | vqrshlS8Scalar | vqrshlU8 | vqrshlU8Scalar | vqrshlS16
  | vqrshlS16Scalar | vqrshlU16 | vqrshlU16Scalar | vqrshlS32 | vqrshlS32Scalar | vqrshlU32 | vqrshlU32Scalar =>
    exact .inr (emptiesRes_shiftOp fun _ => rfl)
  | vmullbS8 | vmullbU8 | vmullbS16 | vmullbU16 | vmullbS32 | vmullbU32 | vmulltS8 | vmulltU8 | vmulltS16 | vmulltU16
  | vmulltS32 | vmulltU32 =>
    exact .inr (emptiesRes_widenMulOp fun _ => rfl)
  | vcaddI8Rot90 | vcaddI16Rot90 | vcaddI32Rot90 | vcaddI8Rot270 | vcaddI16Rot270 | vcaddI32Rot270 =>
    exact .inr (emptiesRes_rotateAddOp fun _ => rfl)
  | vqdmladhS8 | vqdmladhS16 | vqdmladhS32 | vqdmladhxS8 | vqdmladhxS16 | vqdmladhxS32 | vqrdmladhS8 | vqrdmladhS16
  | vqrdmladhS32 | vqrdmladhxS8 | vqrdmladhxS16 | vqrdmladhxS32 | vqdmlsdhS8 | vqdmlsdhS16 | vqdmlsdhS32
  | vqdmlsdhxS8 | vqdmlsdhxS16 | vqdmlsdhxS32 | vqrdmlsdhS8 | vqrdmlsdhS16 | vqrdmlsdhS32 | vqrdmlsdhxS8
  | vqrdmlsdhxS16 | vqrdmlsdhxS32 =>
    exact .inr (emptiesRes_dualHighOp fun _ => rfl)
  | _ => exact .inr (emptiesRes_laneOp fun _ => rfl)

/-- RES carries a value after an operation exactly when it ended with DONE and is one that gives a result. -/
theorem exec_res_isSome_iff {i : Instr} {s t : State} (h : exec i s = .next t) :
    t.res.isSome = true ↔ t.outcome = some .done ∧ GivesResult i := by
  constructor
  · intro hres
    rcases givesResult_or_emptiesRes i with hi | hi
    · exact ⟨(fillsRes_of_givesResult hi s t h).mp hres, hi⟩
    · simp [hi s t h] at hres
  · rintro ⟨hdone, hi⟩
    exact (fillsRes_of_givesResult hi s t h).mpr hdone

/-! ## OUTCOME -/

/-- OUTCOME's code is 0 exactly for DONE (60_exceptions.md R255). -/
theorem TxOutcome.code_eq_zero_iff (o : TxOutcome) : o.code = 0 ↔ o = .done := by
  cases o <;> simp

/-- Every operation ends with an OUTCOME. -/
theorem exec_outcome {i : Instr} {s t : State} (h : exec i s = .next t) : ∃ o, t.outcome = some o := by
  cases execCase_of_exec h with
  | msr _ _ ht | mrs _ _ ht | icv _ ht | completed _ _ _ _ _ ht | aborted _ _ _ ht =>
    subst ht
    exact ⟨_, rfl⟩

/-- A step that takes a transaction refused its descriptor or ran its operation. -/
theorem step_transaction_cases {s t : State} {tx : Transaction} {rest : List Input}
    (hin : s.inputs = .transaction tx :: rest) (h : step s = .next t) :
    t = ((s.withInputs rest).present tx).finish .illegal none ∨
      ∃ i, decode tx.desc = .ok i ∧ exec i ((s.withInputs rest).present tx) = .next t := by
  cases stepCase_of_step h with
  | illegal tx' rest' hin' _ ht =>
    cases hin.symm.trans hin'
    exact .inl ht
  | run tx' rest' i hin' _ hdec _ hexec =>
    cases hin.symm.trans hin'
    exact .inr ⟨i, hdec, hexec⟩
  | idle hin' | reset _ _ hin' | writeQ _ _ _ hin' | writeMem _ _ _ hin' | setFaults _ _ hin' =>
    cases hin.symm.trans hin'

/-- Settles O52: a refusal has code 3 and empties RES; an operation's OUTCOME decides its code, and with which
operation it is whether RES carries a value. -/
theorem transactionsReportTheirOutcomeCode : Obligations.TransactionsReportTheirOutcomeCode := by
  refine ⟨⟨rfl, fun _ => rfl, rfl, rfl⟩, fun s t tx rest hin h => ?_⟩
  rcases step_transaction_cases hin h with rfl | ⟨i, hdec, hexec⟩
  · exact ⟨3, rfl, by decide, by simp⟩
  · obtain ⟨o, ho⟩ := exec_outcome hexec
    have hgives : (∃ j, decode tx.desc = .ok j ∧ GivesResult j) ↔ GivesResult i := by simp [hdec]
    refine ⟨o.code, by rw [State.outcomeCode, ho, Option.map_some], o.code_lt, ?_⟩
    rw [exec_res_isSome_iff hexec, ho, Option.some_inj, o.code_eq_zero_iff, hgives]

end Sys2Proof.Machine
end
